-- ==== Sys2Proof/Word.lean ====
section
/-! DEFINITION. The stored widths of spec rule R6: `uN` is an N-bit unsigned value. Intermediate values are `Nat`,
which is rule R6's integer of unbounded width. -/

namespace Sys2Proof

/-- A byte: one sensor register (R29), one byte of a host command or response (R43), a u8 field (R15). -/
abbrev Byte := BitVec 8

/-- A u16 field: a channel reading or a threshold (R15, R20, R21, R37). -/
abbrev U16 := BitVec 16

/-- A u32 field: `CFG_CAL_TARGET` (R15) and the value part of a lux slot (R18). -/
abbrev U32 := BitVec 32

/-- A sensor register address or a special-function code: five bits (R29, R52). -/
abbrev SensorAddr := BitVec 5

end Sys2Proof
end

