-- ==== Sys2Proof/Config.lean ====
section
/-! DEFINITION. The configuration record (R15), the OPEN parameters (R5), what the environment supplies (R4, R85), and
the free values: constants with no body, so that nothing can be proved of one of their values. -/

namespace Sys2Proof

/-- The sixteen `CFG_*` fields of the configuration store, in the order and at the widths of R15. -/
structure DeviceConfig where
  calTarget : U32
  alsTime : U16
  scale : U16
  gainTrim : U16
  filterDepth : Byte
  filterCount : Byte
  gain : Byte
  proxHi : U16
  proxLo : U16
  proxIntTime : Byte
  proxAdcTime : Byte
  proxWaitTime : Byte
  proxIntrFilter : Byte
  proxConfig : Byte
  proxPulseCnt : Byte
  proxGain : Byte
deriving DecidableEq, Repr, Inhabited

/-- The OPEN parameters of R5: `P_REG_*` (R30), `P_AINT_BIT` and `P_PINT_BIT` (R31), `DEFAULT_CONFIG` (R124). The
constraints R30, R31 and R124 put on them are `Params.ok` (Safety.lean). -/
structure Params where
  regStatus : SensorAddr
  regData : SensorAddr
  regAilt : SensorAddr
  regAiht : SensorAddr
  regPilt : SensorAddr
  regPiht : SensorAddr
  aintBit : Fin 8
  pintBit : Fin 8
  defaultConfig : DeviceConfig
deriving DecidableEq, Repr

/-- The record `TEST_CONFIG` of R124. DESIGN CHOICE (log 1), unsafe: the spec leaves `DEFAULT_CONFIG` OPEN, and the
model's `State.reset` holds this record. -/
def Config.testConfig : DeviceConfig where
  calTarget := 100000
  alsTime := 50
  scale := 1
  gainTrim := 512
  filterDepth := 3
  filterCount := 1
  gain := 0
  proxHi := 9500
  proxLo := 9000
  proxIntTime := 238
  proxAdcTime := 0
  proxWaitTime := 238
  proxIntrFilter := 0
  proxConfig := 0
  proxPulseCnt := 8
  proxGain := 0

/-- The parameters `State.reset` holds. PRESUMED (log 2), unsafe: the sensor layout is the TSL2771 family's, the spec's
defaults of R5; the record is that of log 1. Every other state may hold any parameters. -/
def Config.familyParams : Params where
  regStatus := 0x13
  regData := 0x14
  regAilt := 0x04
  regAiht := 0x06
  regPilt := 0x08
  regPiht := 0x0A
  aintBit := 4
  pintBit := 5
  defaultConfig := Config.testConfig

/-- One answer of the sensor to one transaction (R33): `Ok` or `Err`, and for a read the bytes, of which a read of `n`
bytes takes the first `n` (the lowest byte is `r[0]`). Six bytes are the longest read (R10). -/
structure Answer where
  ok : Bool
  data : BitVec 48
deriving DecidableEq, Repr, Inhabited

/-- What the environment may choose next: one of the operations of R85, the host putting a command on its port (R43),
or a reset event (R123). -/
inductive Pick where
  /-- The host issues a command: the bytes stand on the host port (R43). -/
  | issue (command : List Byte)
  /-- The block runs the outstanding host command (R85). -/
  | host
  /-- A hardware-signal event: an IRQ step (R86, R113). -/
  | signal
  /-- The light unit dequeues (R89). -/
  | alsDeq
  /-- The light unit executes (R91). -/
  | alsExec
  /-- The proximity unit dequeues (R90). -/
  | proxDeq
  /-- The proximity unit executes (R92). -/
  | proxExec
  /-- A reset event (R123). -/
  | reset
deriving DecidableEq, Repr, Inhabited

/-- Free value (log 3): the sensor's answer to a transaction, once `State.answers` is used up. R33: "a draw that depends
on nothing the model fixes". -/
opaque Config.freeAnswer : Nat → Answer

/-- Free value (log 4): the environment's next choice, once `State.schedule` is used up. R39: the order "is free". -/
opaque Config.freePick : Nat → Pick

end Sys2Proof
end

