-- ==== Sys2Proof/Syntax.lean ====
section
/-! DEFINITION. The operations of spec/opcode_table.json, one constructor per row, and the two encoded forms they come
in: host commands (R43, R44) and sensor-port transactions (R52). -/

namespace Sys2Proof

/-- What an auto-increment transaction moves (R54): the two burst reads and the word write the block uses. -/
inductive Xfer where
  /-- `MemRead(addr, 4)` (R35 (b)). -/
  | read4
  /-- `MemRead(addr, 6)` (R35 (c)). -/
  | read6
  /-- `MemWrite(addr, 2, v)` (R35 (d)). -/
  | write (v : U16)
deriving DecidableEq, Repr

/-- The bytes a transaction moves besides its command byte (R10). -/
def Xfer.count : Xfer → Nat
  | .read4 => 4
  | .read6 => 6
  | .write _ => 2

/-- Every operation of the opcode table (R44, R51, R52). -/
inductive Instr where
  /-- 0x01 LIGHT_ON (R97). -/
  | lightOn
  /-- 0x02 LIGHT_OFF (R98). -/
  | lightOff
  /-- 0x03 READ_LIGHT (R99). -/
  | readLight
  /-- 0x04 CALIBRATE_LIGHT (R100). -/
  | calibrateLight
  /-- 0x05 PROX_ON (R101). -/
  | proxOn
  /-- 0x06 PROX_OFF (R102). -/
  | proxOff
  /-- 0x07 READ_PROX_INFO (R103). -/
  | readProxInfo
  /-- 0x08 READ_PROX_EVENT (R104). -/
  | readProxEvent
  /-- 0x09 CALIBRATE_PROX (R83). -/
  | calibrateProx
  /-- 0x0A GET_CONFIG (R62). -/
  | getConfig
  /-- 0x0B SET_CONFIG with its record (R61). -/
  | setConfig (record : DeviceConfig)
  /-- 0x0C TRIGGER_ALS (R87). -/
  | triggerAls
  /-- 0x0D TRIGGER_PROX (R88). -/
  | triggerProx
  /-- 100aaaaa SENSOR_BYTE: byte mode, one register (R53). -/
  | sensorByte (addr : SensorAddr)
  /-- 101aaaaa SENSOR_AUTO: auto-increment word-block mode (R54). -/
  | sensorAuto (addr : SensorAddr) (xfer : Xfer)
  /-- 0xE5 SF_PROX_CLR (R55). -/
  | sfProxClr
  /-- 0xE6 SF_ALS_CLR (R55). -/
  | sfAlsClr
  /-- 0xE7 SF_BOTH_CLR (R55). -/
  | sfBothClr
  /-- IRQ, no encoding (R86). -/
  | irq
  /-- ALS_DEQ, no encoding (R89). -/
  | alsDeq
  /-- ALS_EXEC, no encoding (R91). -/
  | alsExec
  /-- PROX_DEQ, no encoding (R90). -/
  | proxDeq
  /-- PROX_EXEC, no encoding (R92). -/
  | proxExec
deriving DecidableEq, Repr

/-- A sensor-port transaction as it is asked for (R10, R33): the bytes the block puts on the bus (the command byte, and
for a write the data bytes after it, R54) and the byte count, which the command byte of a read does not tell. -/
structure PortReq where
  bus : List Byte
  count : Nat
deriving DecidableEq, Repr

/-- An encoded operation: a host command's bytes (R43), or a sensor-port transaction (R52). -/
inductive Request where
  | host (bytes : List Byte)
  | sensor (req : PortReq)
deriving DecidableEq, Repr

end Sys2Proof
end

