-- ==== Sys2Proof/WellFormed.lean ====
section
/-! DEFINITION. Which operations the encodings admit. Every record is a well-formed SET_CONFIG operand: R49, "Every byte
pattern decodes to some record". -/

namespace Sys2Proof

/-- R38: a multi-byte transaction "may start at any address that keeps it within 0x00..0x1F". -/
def withinSensorSpace (addr : SensorAddr) (count : Nat) : Bool :=
  decide (addr.toNat + count ≤ 32)

/-- The one check an operand needs: an auto-increment transfer stays inside the sensor register space (R38). -/
def Instr.wellFormed : Instr → Bool
  | .lightOn | .lightOff | .readLight | .calibrateLight => true
  | .proxOn | .proxOff | .readProxInfo | .readProxEvent | .calibrateProx => true
  | .getConfig | .setConfig _ | .triggerAls | .triggerProx => true
  | .sensorByte _ => true
  | .sensorAuto addr xfer => withinSensorSpace addr xfer.count
  | .sfProxClr | .sfAlsClr | .sfBothClr => true
  | .irq | .alsDeq | .alsExec | .proxDeq | .proxExec => true

end Sys2Proof
end

