-- ==== Sys2Proof/Decode.lean ====
section
/-! DEFINITION. Byte order (R7, R37), the DeviceConfig record (R49), the decoder of host commands (R44, R45, R50) and of
sensor-port transactions (R52 to R56), and after it the encoder. -/

namespace Sys2Proof

/-! ## Byte order -/

/-- `bytes_le(v, n)` of R7: the `n` low bytes of `v`, least significant first. -/
def bytesLe : (n v : Nat) → List Byte
  | 0, _ => []
  | n + 1, v => BitVec.ofNat 8 v :: bytesLe n (v / 256)

/-- The number a byte sequence holds, least significant byte first: `Σ r[j] << (8j)` (R49). -/
def natLe : List Byte → Nat
  | [] => 0
  | b :: rest => b.toNat + 256 * natLe rest

/-- `le16(lo, hi)` of R7. -/
def le16 (lo hi : Byte) : U16 := hi ++ lo

/-! ## The DeviceConfig record -/

/-- R49's length of the record in bytes. -/
def configBytes : Nat := 24

/-- R49: the field at byte offset `o` with `k` bytes. -/
def recordField (rec : List Byte) (o k : Nat) : Nat :=
  natLe ((rec.drop o).take k)

/-- R49: `decode_cfg`, each field at the offset and width of the table. -/
def decodeConfig (rec : List Byte) : DeviceConfig where
  calTarget := BitVec.ofNat 32 (recordField rec 0 4)
  alsTime := BitVec.ofNat 16 (recordField rec 4 2)
  scale := BitVec.ofNat 16 (recordField rec 6 2)
  gainTrim := BitVec.ofNat 16 (recordField rec 8 2)
  filterDepth := BitVec.ofNat 8 (recordField rec 10 1)
  filterCount := BitVec.ofNat 8 (recordField rec 11 1)
  gain := BitVec.ofNat 8 (recordField rec 12 1)
  proxHi := BitVec.ofNat 16 (recordField rec 13 2)
  proxLo := BitVec.ofNat 16 (recordField rec 15 2)
  proxIntTime := BitVec.ofNat 8 (recordField rec 17 1)
  proxAdcTime := BitVec.ofNat 8 (recordField rec 18 1)
  proxWaitTime := BitVec.ofNat 8 (recordField rec 19 1)
  proxIntrFilter := BitVec.ofNat 8 (recordField rec 20 1)
  proxConfig := BitVec.ofNat 8 (recordField rec 21 1)
  proxPulseCnt := BitVec.ofNat 8 (recordField rec 22 1)
  proxGain := BitVec.ofNat 8 (recordField rec 23 1)

/-- R49: `encode_cfg`, the fields packed in order with no padding. -/
def encodeConfig (c : DeviceConfig) : List Byte :=
  bytesLe 4 c.calTarget.toNat ++ bytesLe 2 c.alsTime.toNat ++ bytesLe 2 c.scale.toNat ++ bytesLe 2 c.gainTrim.toNat
    ++ [c.filterDepth, c.filterCount, c.gain] ++ bytesLe 2 c.proxHi.toNat ++ bytesLe 2 c.proxLo.toNat
    ++ [c.proxIntTime, c.proxAdcTime, c.proxWaitTime, c.proxIntrFilter, c.proxConfig, c.proxPulseCnt, c.proxGain]

/-! ## Decoding -/

/-- Why a byte sequence is no operation. The first three make a host command illegal (R45, R50); the rest are the
transactions the block never issues (R56). -/
inductive DecodeError where
  /-- No byte at all: DEDUCED (log 21) from R45 and R50. -/
  | emptyCommand
  /-- First byte 0x00, 0x0E, 0x0F or 0x10 to 0xFF (R45). -/
  | reservedOpcode
  /-- Total length other than `1 + plen(op)` (R45). -/
  | wrongLength
  /-- No command byte. -/
  | emptyRequest
  /-- Command byte with bit 7 = 0 (R56). -/
  | noSelectBit
  /-- Command byte of type `10` (R56). -/
  | reservedType
  /-- Special-function code other than 0x05, 0x06, 0x07 (R56). -/
  | unassignedFunction
  /-- A byte count that no transaction of R35 has. -/
  | wrongCount
deriving DecidableEq, Repr

/-- R44: the twelve opcodes with no request payload. -/
def plainCommand (op : Byte) : Option Instr :=
  match op.toNat with
  | 0x01 => some .lightOn
  | 0x02 => some .lightOff
  | 0x03 => some .readLight
  | 0x04 => some .calibrateLight
  | 0x05 => some .proxOn
  | 0x06 => some .proxOff
  | 0x07 => some .readProxInfo
  | 0x08 => some .readProxEvent
  | 0x09 => some .calibrateProx
  | 0x0A => some .getConfig
  | 0x0C => some .triggerAls
  | 0x0D => some .triggerProx
  | _ => none

/-- R44: SET_CONFIG's opcode, the one with a payload. -/
def setConfigOpcode : Byte := 0x0B

/-- R44: `plen(op)`, the payload bytes a command's first byte calls for. -/
def payloadLength (op : Byte) : Nat :=
  if op = setConfigOpcode then configBytes else 0

/-- R50: the host command decoder, total on byte sequences. -/
def decodeHost : List Byte → Except DecodeError Instr
  | [] => .error .emptyCommand
  | op :: payload =>
    if op = setConfigOpcode then
      if payload.length = configBytes then .ok (.setConfig (decodeConfig payload)) else .error .wrongLength
    else
      match plainCommand op with
      | none => .error .reservedOpcode
      | some i => if payload.isEmpty then .ok i else .error .wrongLength

/-- R52: the type field `tt`, bits 6:5 of a command byte. -/
def commandType (cmd : Byte) : BitVec 2 := cmd.extractLsb' 5 2

/-- R52: the address or function code, bits 4:0 of a command byte. -/
def commandField (cmd : Byte) : SensorAddr := cmd.extractLsb' 0 5

/-- R53: byte mode is the 1-byte read. -/
def decodeByteMode (addr : SensorAddr) (written : List Byte) (count : Nat) : Except DecodeError Instr :=
  if written.isEmpty && count == 1 then .ok (.sensorByte addr) else .error .wrongCount

/-- R54: auto-increment mode is a 4-byte or 6-byte read, or a word write with its low byte first. -/
def decodeAutoMode (addr : SensorAddr) (written : List Byte) (count : Nat) : Except DecodeError Instr :=
  match written with
  | [] =>
    if count = 4 then .ok (.sensorAuto addr .read4)
    else if count = 6 then .ok (.sensorAuto addr .read6)
    else .error .wrongCount
  | [lo, hi] => if count = 2 then .ok (.sensorAuto addr (.write (le16 lo hi))) else .error .wrongCount
  | _ => .error .wrongCount

/-- R55: the three special-function codes, which carry no data. -/
def decodeFunction (code : SensorAddr) (written : List Byte) (count : Nat) : Except DecodeError Instr :=
  if written.isEmpty && count == 0 then
    match code.toNat with
    | 0x05 => .ok .sfProxClr
    | 0x06 => .ok .sfAlsClr
    | 0x07 => .ok .sfBothClr
    | _ => .error .unassignedFunction
  else .error .wrongCount

/-- R52 to R56: the sensor-port transactions the block can issue. -/
def decodeSensor (r : PortReq) : Except DecodeError Instr :=
  match r.bus with
  | [] => .error .emptyRequest
  | cmd :: written =>
    if cmd.getLsbD 7 then
      match (commandType cmd).toNat with
      | 0 => decodeByteMode (commandField cmd) written r.count
      | 1 => decodeAutoMode (commandField cmd) written r.count
      | 3 => decodeFunction (commandField cmd) written r.count
      | _ => .error .reservedType
    else .error .noSelectBit

/-- The decoder of both encoded interfaces. -/
def decode : Request → Except DecodeError Instr
  | .host bytes => decodeHost bytes
  | .sensor req => decodeSensor req

/-! ## Encoding -/

/-- R53: `0x80 | addr`. -/
def byteModeCommand (addr : SensorAddr) : Byte := 0b100#3 ++ addr

/-- R54: `0xA0 | addr`. -/
def autoModeCommand (addr : SensorAddr) : Byte := 0b101#3 ++ addr

/-- R55: `0xE0 | code`. -/
def functionCommand (code : SensorAddr) : Byte := 0b111#3 ++ code

/-- R54: an auto-increment transaction as it is asked for. -/
def encodeAuto (addr : SensorAddr) : Xfer → PortReq
  | .read4 => ⟨[autoModeCommand addr], 4⟩
  | .read6 => ⟨[autoModeCommand addr], 6⟩
  | .write v => ⟨autoModeCommand addr :: bytesLe 2 v.toNat, 2⟩

/-- R44, R49, R52 to R55: the encoding of an operation; `none` for the five that have no encoding (R51). -/
def encode : Instr → Option Request
  | .lightOn => some (.host [0x01])
  | .lightOff => some (.host [0x02])
  | .readLight => some (.host [0x03])
  | .calibrateLight => some (.host [0x04])
  | .proxOn => some (.host [0x05])
  | .proxOff => some (.host [0x06])
  | .readProxInfo => some (.host [0x07])
  | .readProxEvent => some (.host [0x08])
  | .calibrateProx => some (.host [0x09])
  | .getConfig => some (.host [0x0A])
  | .setConfig record => some (.host (setConfigOpcode :: encodeConfig record))
  | .triggerAls => some (.host [0x0C])
  | .triggerProx => some (.host [0x0D])
  | .sensorByte addr => some (.sensor ⟨[byteModeCommand addr], 1⟩)
  | .sensorAuto addr xfer => some (.sensor (encodeAuto addr xfer))
  | .sfProxClr => some (.sensor ⟨[0xE5], 0⟩)
  | .sfAlsClr => some (.sensor ⟨[0xE6], 0⟩)
  | .sfBothClr => some (.sensor ⟨[0xE7], 0⟩)
  | .irq => none
  | .alsDeq => none
  | .alsExec => none
  | .proxDeq => none
  | .proxExec => none

/-! ## Words of the opcode table -/

/-- The transaction a table word of format "sensor" stands for: its first byte is the command byte; the bits above it
are the data bytes of a word write and, being no part of a read, make SENSOR_AUTO a word write (DESIGN CHOICE, log 9). -/
def tableSensor (w : Nat) : PortReq :=
  let cmd : Byte := BitVec.ofNat 8 w
  match (commandType cmd).toNat with
  | 0 => ⟨[cmd], 1⟩
  | 1 => ⟨cmd :: bytesLe 2 (w / 256), 2⟩
  | _ => ⟨[cmd], 0⟩

/-- The bytes of a table word of format "host": as many as the table gives bits for, and at least the command's own
length; a byte above `nbits` is read from `w`, where it is 0. -/
def tableHost (nbits w : Nat) : List Byte :=
  bytesLe (max (nbits / 8) (1 + payloadLength (BitVec.ofNat 8 w))) w

/-- Which interface a table word belongs to: bit 7 of the first byte is the register-select bit of a sensor command
byte (R52) and is 0 in every host opcode (R44). -/
def tableRequest (nbits w : Nat) : Request :=
  if (BitVec.ofNat 8 w).getLsbD 7 then .sensor (tableSensor w) else .host (tableHost nbits w)

/-- The operation the decoder reads from a word of spec/opcode_table.json. -/
def decodeTableWord (nbits w : Nat) : Option Instr :=
  (decode (tableRequest nbits w)).toOption

end Sys2Proof
end

