-- ==== Sys2Proof/Machine/ConfigRules.lean ====
section
/-! DEFINITION. The configuration store's functions (R59, R60) and the check SET_CONFIG makes (R61). They stand before
State because the reset values of the derived registers are `Derive(DEFAULT_CONFIG)` (R123). -/

namespace Sys2Proof.Machine

/-- The five derived registers of R16. -/
structure Derived where
  ltsNum : U16
  ltsDen : U16
  ltsSat : U16
  satAls : U16
  satProx : U16
deriving DecidableEq, Repr

/-- `NormAlsTime` of R59: clamp to [50, 650], then round to the nearest multiple of 50, ties up. -/
def normAlsTime (t : U16) : U16 :=
  let c := min (max t.toNat 50) 650
  BitVec.ofNat 16 ((c + 25) / 50 * 50)

/-- The saturation formula of R60 for `SAT_ALS` and `SAT_PROX`: `min((256 − x) << 10, 65535)`. -/
def saturationOf (x : Byte) : U16 :=
  BitVec.ofNat 16 (min ((256 - x.toNat) * 1024) 65535)

/-- `Derive` of R60. -/
def derive (cfg : DeviceConfig) : Derived where
  ltsNum := 1
  ltsDen := BitVec.ofNat 16 ((cfg.alsTime.toNat + 25) / 50)
  ltsSat := BitVec.ofNat 16 (min (300 * cfg.alsTime.toNat) 65535)
  satAls := saturationOf cfg.proxIntTime
  satProx := saturationOf cfg.proxAdcTime

/-- R61's first step: the record with its `als_time` normalised. -/
def normConfig (cfg : DeviceConfig) : DeviceConfig :=
  { cfg with alsTime := normAlsTime cfg.alsTime }

/-- R61's one check, `CFG_PROX_LO < CFG_PROX_HI`. -/
def thresholdsOrdered (cfg : DeviceConfig) : Bool :=
  decide (cfg.proxLo.toNat < cfg.proxHi.toNat)

end Sys2Proof.Machine
end

