-- ==== Sys2Proof/Machine/State.lean ====
section
/-! DEFINITION. The state of the block (10_state.md), its ports, and the model's own fields; the reasons a step can stop;
the state after reset (R123). -/

namespace Sys2Proof.Machine

/-- A lux value in millilux (R18): at most 65 535 000, so 32 bits hold it (R66). -/
abbrev Lux := U32

/-- R18: the three slots of the lux history; `none` is `NoDataV`. -/
structure History where
  /-- `HIST[0]`. -/
  newest : Option Lux
  /-- `HIST[1]`. -/
  middle : Option Lux
  /-- `HIST[2]`. -/
  oldest : Option Lux
deriving DecidableEq, Repr

/-- R25: the trigger front end's two states. -/
inductive DispState where
  | idle
  | dispatching
deriving DecidableEq, Repr

/-- Who issued a transaction (R33), and `bare` for a transaction that no operation of R85 issued: a row of format
"sensor" run by itself (DESIGN CHOICE, log 8). -/
inductive Agent where
  | lightUnit
  | proxUnit
  | hostCommand
  | triggerFrontEnd
  | bare
deriving DecidableEq, Repr

/-- One entry of the sensor-port event history, with the components R33 lists. -/
structure PortEvent where
  agent : Agent
  /-- The command byte (R52). -/
  cmd : Byte
  /-- The byte count: 1, 4 or 6 for a read, 2 for a write, 0 for a special function. -/
  count : Nat
  /-- The bytes written, or the bytes a successful read returned. -/
  data : List Byte
  /-- The outcome: `Ok` is `true`. -/
  ok : Bool
deriving DecidableEq, Repr

/-- R105: the error kinds. -/
inductive ErrorKind where
  | transportError
  | noData
  | invalidState
  | outOfRange
  | illegalCommand
deriving DecidableEq, Repr

/-- The state: every register of 10_state.md, the host port, the sensor-port event history, and the model's own fields. -/
structure State where
  /-- The sixteen `CFG_*` registers (R15). -/
  cfg : DeviceConfig
  /-- `LTS_NUM`, `LTS_DEN`, `LTS_SAT`, `SAT_ALS`, `SAT_PROX` (R16). -/
  derived : Derived
  /-- `ALS_EN` (R17). -/
  alsEn : Bool
  /-- `PROX_EN` (R17). -/
  proxEn : Bool
  /-- `HIST` (R18). -/
  hist : History
  /-- `LUX_PUB` (R19). -/
  luxPub : Option Lux
  /-- `PX_INFO_CLEAR` (R20). -/
  pxInfoClear : U16
  /-- `PX_INFO_RAW` (R20). -/
  pxInfoRaw : U16
  /-- `PX_EVENT` (R20): `true` is near, 1. -/
  pxEvent : Bool
  /-- `PX_ARM_HI` (R21). -/
  pxArmHi : U16
  /-- `PX_ARM_LO` (R21). -/
  pxArmLo : U16
  /-- `PX_CAL_MAX` (R22). -/
  pxCalMax : U16
  /-- `ALS_LAST_STATUS` (R23). -/
  alsLastStatus : Byte
  /-- `PROX_LAST_STATUS` (R23). -/
  proxLastStatus : Byte
  /-- `DISP_LAST_STATUS` (R23). -/
  dispLastStatus : Byte
  /-- `ALS_PENDING` (R24). -/
  alsPending : Bool
  /-- `ALS_BUSY` (R24). -/
  alsBusy : Bool
  /-- `PROX_PENDING` (R24). -/
  proxPending : Bool
  /-- `PROX_BUSY` (R24). -/
  proxBusy : Bool
  /-- `DISP_STATE` (R25). -/
  dispState : DispState
  /-- The host command issued and not yet answered (R43, R85). -/
  hostCmd : Option (List Byte)
  /-- The responses returned on the host port, oldest first (R43). -/
  responses : List (List Byte)
  /-- The sensor-port event history, oldest first (R33). -/
  history : List PortEvent
  /-- The model's own: the OPEN parameters (R5). No operation writes them. -/
  params : Params
  /-- The model's own: the sensor's next answers, next first (log 3). -/
  answers : List Answer
  /-- The model's own: the environment's next choices, next first (log 4). -/
  schedule : List Pick
  /-- The model's own: how many free values have been drawn (log 3, log 4). -/
  freeCount : Nat
  /-- The model's own: a sensor-port transaction asked for by itself (log 8). -/
  portReq : Option PortReq
deriving DecidableEq, Repr

/-- Why the machine stops. The block itself "has no fault state, halt state or stuck state" (R111). -/
inductive Fault where
  /-- Raised by SENSOR_AUTO run by itself on an address from which the transfer runs past 0x1F (R38: such an access "is
  never issued"). Safe (log 10): no operation of R85 raises it. -/
  | beyondSensorSpace
deriving DecidableEq, Repr

/-- Why a request gets no step. -/
inductive Refusal where
  /-- Raised by an arm of `exec` that has no meaning yet. Safe. No arm of this model raises it. -/
  | notModelled (mnemonic : String)
  /-- Raised by ALS_DEQ, ALS_EXEC, PROX_DEQ and PROX_EXEC in a state where R85 does not enable them. Safe (log 6): `step`
  never runs them there. -/
  | notEnabled
  /-- Raised for a transaction asked for by itself whose command byte the block never emits (R56). Safe (log 11). -/
  | neverEmitted
deriving DecidableEq, Repr

/-- R123: every register at its reset value, for given parameters, with nothing on the ports. -/
def State.resetWith (p : Params) : State where
  cfg := p.defaultConfig
  derived := derive p.defaultConfig
  alsEn := false
  proxEn := false
  hist := ⟨none, none, none⟩
  luxPub := none
  pxInfoClear := 0
  pxInfoRaw := 0
  pxEvent := false
  pxArmHi := p.defaultConfig.proxHi
  pxArmLo := p.defaultConfig.proxLo
  pxCalMax := 0
  alsLastStatus := 0
  proxLastStatus := 0
  dispLastStatus := 0
  alsPending := false
  alsBusy := false
  proxPending := false
  proxBusy := false
  dispState := .idle
  hostCmd := none
  responses := []
  history := []
  params := p
  answers := []
  schedule := []
  freeCount := 0
  portReq := none

/-- The machine right after reset (R123), with the parameters of log 1 and log 2. -/
def State.reset : State := State.resetWith Config.familyParams

end Sys2Proof.Machine
end

