-- ==== Sys2Proof/Machine/Flags.lean ====
section
/-! DEFINITION. Status codes (R106) and every flag the spec computes: the status byte's two interrupt bits and their routing
(R31, R86), the ambient guard (R80), the near/far event (R81), and the enabling conditions (R85). -/

namespace Sys2Proof.Machine

/-- R106: the status code of an error. -/
def ErrorKind.code : ErrorKind → Byte
  | .transportError => 0x01
  | .noData => 0x02
  | .invalidState => 0x03
  | .outOfRange => 0x04
  | .illegalCommand => 0x05

/-- R106: the status code OK. -/
def statusOk : Byte := 0x00

/-- R20: the byte an event flag stands as, near 0x01 and far 0x00. -/
def eventByte (near : Bool) : Byte := if near then 1 else 0

/-- R31: the ALS-interrupt bit of a status byte. -/
def alsInterrupt (p : Params) (status : Byte) : Bool := status.getLsbD p.aintBit.val

/-- R31: the proximity-interrupt bit of a status byte. -/
def proxInterrupt (p : Params) (status : Byte) : Bool := status.getLsbD p.pintBit.val

/-- R86: a status byte requests a light pass when its ALS bit is set and its proximity bit is not. -/
def requestsLight (p : Params) (status : Byte) : Bool :=
  alsInterrupt p status && !proxInterrupt p status

/-- R86: a status byte requests a proximity pass when its proximity bit is set. -/
def requestsProx (p : Params) (status : Byte) : Bool := proxInterrupt p status

/-- `AmbientSwamped` of R80: `5 * clear > 4 * SAT_ALS`. -/
def ambientSwamped (satAls clear : U16) : Bool :=
  decide (5 * clear.toNat > 4 * satAls.toNat)

/-- R85: ALS_DEQ is enabled when a light pass is queued and none is in flight. -/
def alsDeqEnabled (s : State) : Bool := s.alsPending && !s.alsBusy

/-- R85: ALS_EXEC is enabled when a light pass is in flight. -/
def alsExecEnabled (s : State) : Bool := s.alsBusy

/-- R85: PROX_DEQ is enabled when a proximity pass is queued and none is in flight. -/
def proxDeqEnabled (s : State) : Bool := s.proxPending && !s.proxBusy

/-- R85: PROX_EXEC is enabled when a proximity pass is in flight. -/
def proxExecEnabled (s : State) : Bool := s.proxBusy

/-- R25: a signal is masked while the trigger front end is Dispatching (DEDUCED, log 13: "vacuous" within an atomic
step, since `DISP_STATE` is Idle between steps). -/
def signalAccepted (s : State) : Bool := decide (s.dispState = .idle)

end Sys2Proof.Machine
end

