-- ==== Sys2Proof/Machine/Operands.lean ====
section
/-! DEFINITION. The operand and payload forms: the channels of a burst read (R37), a word write's bytes (R37), and the
response payloads (R46 to R49). -/

namespace Sys2Proof.Machine

/-- R33, R36: the `n` bytes a successful read returns. -/
def answerBytes (a : Answer) (n : Nat) : List Byte := bytesLe n a.data.toNat

/-- R37: the 16-bit channel held by bytes `2k` and `2k + 1` of a burst: `k` = 0 clear, 1 ir, 2 proximity. -/
def burstChannel (r : List Byte) (k : Nat) : U16 :=
  le16 (r.getD (2 * k) 0) (r.getD (2 * k + 1) 0)

/-- R37: `clear`. -/
def clearChannel (r : List Byte) : U16 := burstChannel r 0

/-- R37: `ir`. -/
def irChannel (r : List Byte) : U16 := burstChannel r 1

/-- R37: `proximity`, the third pair. -/
def proxChannel (r : List Byte) : U16 := burstChannel r 2

/-- R37: the two bytes of a word write, low byte first. -/
def wordBytes (v : U16) : List Byte := bytesLe 2 v.toNat

/-- R46: the lux integer payload. -/
def luxPayload (v : Lux) : List Byte := bytesLe 4 v.toNat

/-- R47: the ProximityInfo record payload. -/
def proxInfoPayload (s : State) : List Byte :=
  bytesLe 2 s.pxInfoClear.toNat ++ bytesLe 2 s.pxInfoRaw.toNat ++ [eventByte s.pxEvent]

/-- R48: the event integer payload. -/
def eventPayload (near : Bool) : List Byte := bytesLe 4 (eventByte near).toNat

end Sys2Proof.Machine
end

