-- ==== Sys2Proof/Machine/Ops.lean ====
section
/-! DEFINITION. The shared operations: the sensor's answers, the three sensor-port primitives (R10), the sequencing of an
operation (R9), the completion of a host command and of a pass with its status (R106, R109: the block's whole "exception"
mechanism), the history restart (R78) and the reset event (R123). -/

namespace Sys2Proof.Machine

/-! ## The sensor's answers (R33) -/

/-- The answer the `k`-th transaction from here gets: the environment's, or a free value once those are used up (log 3). -/
def State.answerAt (s : State) (k : Nat) : Answer :=
  s.answers.getD k (Config.freeAnswer (s.freeCount + (k - s.answers.length)))

/-- The state with `k` answers used. -/
def State.afterAnswers (s : State) (k : Nat) : State :=
  { s with answers := s.answers.drop k, freeCount := s.freeCount + (k - s.answers.length) }

/-- R33: the next answer is used and its entry appended to the history. -/
def State.record (s : State) (e : PortEvent) : State :=
  { s.afterAnswers 1 with history := s.history ++ [e] }

/-! ## History entries (R33) -/

/-- R53, R54: a 1-byte read goes in byte mode, a burst in auto-increment mode. -/
def readCommand (addr : SensorAddr) (n : Nat) : Byte :=
  if n = 1 then byteModeCommand addr else autoModeCommand addr

/-- The entry of `MemRead(addr, n)`. -/
def readEvent (agent : Agent) (addr : SensorAddr) (n : Nat) (a : Answer) : PortEvent where
  agent := agent
  cmd := readCommand addr n
  count := n
  data := if a.ok then answerBytes a n else []
  ok := a.ok

/-- The entry of `MemWrite(addr, 2, v)`. -/
def writeEvent (agent : Agent) (addr : SensorAddr) (v : U16) (a : Answer) : PortEvent where
  agent := agent
  cmd := autoModeCommand addr
  count := 2
  data := wordBytes v
  ok := a.ok

/-- The entry of `BusSF(code)`. -/
def functionEvent (agent : Agent) (code : SensorAddr) (a : Answer) : PortEvent where
  agent := agent
  cmd := functionCommand code
  count := 0
  data := []
  ok := a.ok

/-! ## Operations (R9) and the sensor-port primitives (R10) -/

/-- The body of an operation up to its commit: it may issue transactions, and ends with a value or with a raised error. -/
abbrev Op (α : Type) := State → Except ErrorKind α × State

/-- R9: the pseudocode goes on with a value. -/
def Op.done {α : Type} (a : α) : Op α := fun s => (.ok a, s)

/-- R9: `raise E`. -/
def Op.fail {α : Type} (e : ErrorKind) : Op α := fun s => (.error e, s)

/-- R9: the pseudocode runs top to bottom, and a raise ends it at once; what was issued stays issued (R34). -/
def Op.andThen {α β : Type} (x : Op α) (f : α → Op β) : Op β := fun s =>
  match x s with
  | (.ok a, t) => f a t
  | (.error e, t) => (.error e, t)

/-- `MemRead(addr, n) or raise TransportError`. -/
def memRead (agent : Agent) (addr : SensorAddr) (n : Nat) : Op (List Byte) := fun s =>
  let a := s.answerAt 0
  (if a.ok then .ok (answerBytes a n) else .error .transportError, s.record (readEvent agent addr n a))

/-- `MemWrite(addr, 2, v) or raise TransportError`. -/
def memWrite (agent : Agent) (addr : SensorAddr) (v : U16) : Op Unit := fun s =>
  let a := s.answerAt 0
  (if a.ok then .ok () else .error .transportError, s.record (writeEvent agent addr v a))

/-- `BusSF(code) or raise TransportError`. -/
def busSF (agent : Agent) (code : SensorAddr) : Op Unit := fun s =>
  let a := s.answerAt 0
  (if a.ok then .ok () else .error .transportError, s.record (functionEvent agent code a))

/-- R55: the code of SF_PROX_CLR. -/
def sfProxCode : SensorAddr := 0x05

/-- R55: the code of SF_ALS_CLR. -/
def sfAlsCode : SensorAddr := 0x06

/-- R55: the code of SF_BOTH_CLR. -/
def sfBothCode : SensorAddr := 0x07

/-! ## Completion (R106, R109, R110) -/

/-- R43: the host port returns a response, a status byte and a payload, and is free for the next command. -/
def State.respond (s : State) (status : Byte) (payload : List Byte) : State :=
  { s with responses := s.responses ++ [status :: payload], hostCmd := none }

/-- R106: a host command completes with OK. -/
def State.respondOk (s : State) (payload : List Byte) : State := s.respond statusOk payload

/-- R106, R109: a host command ends in `raise E`: no register is written, the response is the status byte alone. -/
def State.respondError (s : State) (e : ErrorKind) : State := s.respond e.code []

/-- R45: an illegal command "completes with status IllegalCommand and no payload". -/
def State.respondIllegal (s : State) : State := s.respondError .illegalCommand

/-- R91 "on abort": a light pass ends in `raise E`. -/
def State.abortLight (s : State) (e : ErrorKind) : State :=
  { s with alsBusy := false, alsLastStatus := e.code }

/-- R92 "on abort": a proximity pass ends in `raise E`. -/
def State.abortProx (s : State) (e : ErrorKind) : State :=
  { s with proxBusy := false, proxLastStatus := e.code }

/-! ## Queues, restart, reset -/

/-- R86, R87: one light pass is requested, coalesced. -/
def State.enqueueLight (s : State) : State := { s with alsPending := true }

/-- R86, R88: one proximity pass is requested, coalesced. -/
def State.enqueueProx (s : State) : State := { s with proxPending := true }

/-- `MedianRestart` of R78. -/
def State.medianRestart (s : State) : State :=
  { s with hist := ⟨none, none, none⟩, luxPub := none }

/-- The reset event of R123: every register at its reset value, the outstanding command without a response; the
event history "is not block state and is not cleared" and no transaction is issued. The responses already returned, the
parameters and the environment's inputs are not block state either (log 14, log 15). -/
def State.resetEvent (s : State) : State :=
  { State.resetWith s.params with
    responses := s.responses
    history := s.history
    answers := s.answers
    schedule := s.schedule
    freeCount := s.freeCount
    portReq := s.portReq }

end Sys2Proof.Machine
end

