-- ==== Sys2Proof/Machine/ConfigStore.lean ====
section
/-! DEFINITION. GET_CONFIG (R62) and SET_CONFIG (R61). -/

namespace Sys2Proof.Machine

/-- R61's commit: the sixteen configuration registers and the five derived ones, and nothing else. -/
def State.commitConfig (s : State) (cfg : DeviceConfig) : State :=
  { s with cfg := cfg, derived := derive cfg }

/-- SET_CONFIG (R61), on the decoded record. -/
def execSetConfig (record : DeviceConfig) (s : State) : Host.Outcome State Fault Refusal :=
  .next <|
    if thresholdsOrdered (normConfig record) then (s.commitConfig (normConfig record)).respondOk []
    else s.respondError .outOfRange

/-- GET_CONFIG (R62). -/
def execGetConfig (s : State) : Host.Outcome State Fault Refusal :=
  .next (s.respondOk (encodeConfig s.cfg))

end Sys2Proof.Machine
end

