-- ==== Sys2Proof/Machine/ControlCommands.lean ====
section
/-! DEFINITION. The control commands of 45_control_commands.md (R97 to R104) and the two trigger commands (R87, R88). -/

namespace Sys2Proof.Machine

/-- LIGHT_ON (R97): on the disabled to enabled transition the history restarts. -/
def execLightOn (s : State) : Host.Outcome State Fault Refusal :=
  .next (if s.alsEn then s.respondOk [] else (State.medianRestart { s with alsEn := true }).respondOk [])

/-- LIGHT_OFF (R98). -/
def execLightOff (s : State) : Host.Outcome State Fault Refusal :=
  .next (State.respondOk { s with alsEn := false } [])

/-- READ_LIGHT (R99). -/
def execReadLight (s : State) : Host.Outcome State Fault Refusal :=
  .next <|
    match s.luxPub with
    | none => s.respondError .noData
    | some v => s.respondOk (luxPayload v)

/-- R100: the new gain trim, or the error of the first check that fails. -/
def lightTrim (s : State) : Except ErrorKind U16 :=
  if s.alsEn then
    match s.luxPub with
    | none => .error .noData
    | some lux =>
      if lux.toNat = 0 then .error .outOfRange
      else if s.cfg.calTarget.toNat * 512 / lux.toNat > 0xFFFF then .error .outOfRange
      else .ok (BitVec.ofNat 16 (s.cfg.calTarget.toNat * 512 / lux.toNat))
  else .error .invalidState

/-- CALIBRATE_LIGHT (R100). -/
def execCalibrateLight (s : State) : Host.Outcome State Fault Refusal :=
  .next <|
    match lightTrim s with
    | .ok t => State.respondOk { s with cfg := { s.cfg with gainTrim := t } } []
    | .error e => s.respondError e

/-- R101: the registers PROX_ON writes on the disabled to enabled transition. -/
def State.armProximity (s : State) : State :=
  { s with
    proxEn := true
    pxArmHi := s.cfg.proxHi
    pxArmLo := s.cfg.proxLo
    pxEvent := false
    pxInfoClear := 0
    pxInfoRaw := 0 }

/-- PROX_ON (R101). -/
def execProxOn (s : State) : Host.Outcome State Fault Refusal :=
  .next (if s.proxEn then s.respondOk [] else s.armProximity.respondOk [])

/-- PROX_OFF (R102). -/
def execProxOff (s : State) : Host.Outcome State Fault Refusal :=
  .next (State.respondOk { s with proxEn := false } [])

/-- READ_PROX_INFO (R103). -/
def execReadProxInfo (s : State) : Host.Outcome State Fault Refusal :=
  .next (s.respondOk (proxInfoPayload s))

/-- READ_PROX_EVENT (R104). -/
def execReadProxEvent (s : State) : Host.Outcome State Fault Refusal :=
  .next (s.respondOk (eventPayload s.pxEvent))

/-- TRIGGER_ALS (R87). -/
def execTriggerAls (s : State) : Host.Outcome State Fault Refusal :=
  .next (s.enqueueLight.respondOk [])

/-- TRIGGER_PROX (R88). -/
def execTriggerProx (s : State) : Host.Outcome State Fault Refusal :=
  .next (s.enqueueProx.respondOk [])

end Sys2Proof.Machine
end

