-- ==== Sys2Proof/Machine/LuxEngine.lean ====
section
/-! DEFINITION. The lux computation engine (41_lux_engine.md): the constant tables, the ALS threshold window and `LuxEval`.
Intermediate values are `Nat` (R6). The one subtraction that could go negative never does (R70; DEDUCED, log 16). -/

namespace Sys2Proof.Machine

/-- `rdiv` of R11: the quotient rounded to the nearest integer, ties up. -/
def rdiv (x d : Nat) : Nat := (x + d / 2) / d

/-- R64: `GAIN_TABLE`; no entry for a selector above 3. -/
def gainOf (selector : Byte) : Option Nat :=
  match selector.toNat with
  | 0 => some 1
  | 1 => some 8
  | 2 => some 16
  | 3 => some 120
  | _ => none

/-- One row of R65's table. -/
structure RatioRow where
  ratio : Nat
  clearCoeff : Nat
  irCoeff : Nat
deriving DecidableEq, Repr

/-- R65: `RATIO_TABLE`, with its sentinel. -/
def ratioTable : List RatioRow :=
  [⟨9830, 8320, 15360⟩, ⟨12452, 10554, 22797⟩, ⟨14746, 6234, 11430⟩, ⟨17695, 3968, 6400⟩, ⟨0, 0, 0⟩]

/-- R66: the saturated maximum, in millilux. -/
def luxMax : Nat := 65535000

/-- R69 step 6: the first row whose ratio exceeds the computed one; the sentinel ends the walk. -/
def selectRow : List RatioRow → Nat → Option RatioRow
  | [], _ => none
  | row :: rest, ratio =>
    if row.ratio = 0 then none
    else if row.ratio > ratio then some row
    else selectRow rest ratio

/-- `AlsWindow` of R67, low threshold: `c0 − c0 div 5`. -/
def alsWindowLo (c0 : U16) : U16 := BitVec.ofNat 16 (c0.toNat - c0.toNat / 5)

/-- `AlsWindow` of R67, high threshold: `min(c0 + c0 div 5, 0xFFFF)`. -/
def alsWindowHi (c0 : U16) : U16 := BitVec.ofNat 16 (min (c0.toNat + c0.toNat / 5) 0xFFFF)

/-- R68: the Q15 channel ratio, for `cs > 0`. -/
def channelRatio (cs is : Nat) : Nat := is * 32768 / cs

/-- R69 step 7: the selected row's linear form, `v`; it never goes below 1 where step 7 computes it (R70). -/
def luxDifference (row : RatioRow) (cs is : Nat) : Nat := cs * row.clearCoeff - is * row.irCoeff

/-- R69 step 7: interpolate, descale, milli-scale correct, clamp. -/
def luxScale (v num den gain : Nat) : Nat :=
  min (rdiv (rdiv v den * num) gain / 8) luxMax

/-- R69 steps 5 to 7, on the ordered and scaled channels, once step 4 has found the gain. -/
def luxOfScaled (num den sat gain cs is : Nat) : Nat :=
  if cs ≥ sat ∨ is ≥ sat then luxMax
  else if cs = 0 then 0
  else
    match selectRow ratioTable (channelRatio cs is) with
    | none => 0
    | some row => luxScale (luxDifference row cs is) num den gain

/-- `LuxEval` of R69. Step 4's checks come before step 5's results; DOC's own two checks cannot fire and are kept. -/
def luxEval (cfg : DeviceConfig) (d : Derived) (c0 c1 : U16) : Except ErrorKind Nat :=
  let cs := max c0.toNat c1.toNat * cfg.scale.toNat
  let is := min c0.toNat c1.toNat * cfg.scale.toNat
  match gainOf cfg.gain with
  | none => .error .outOfRange
  | some gain =>
    if gain = 0 ∨ gain > 127 then .error .outOfRange
    else if d.ltsDen.toNat = 0 then .error .outOfRange
    else .ok (luxOfScaled d.ltsNum.toNat d.ltsDen.toNat d.ltsSat.toNat gain cs is)

end Sys2Proof.Machine
end

