-- ==== Sys2Proof/Machine/MedianFilter.lean ====
section
/-! DEFINITION. The temporal median filter (42_median_filter.md). Its depth is 3 whatever the configuration says (R75). -/

namespace Sys2Proof.Machine

/-- The lesser of two lux values. -/
def luxMin (a b : Lux) : Lux := if a.toNat ≤ b.toNat then a else b

/-- The greater of two lux values. -/
def luxMaxOf (a b : Lux) : Lux := if a.toNat ≤ b.toNat then b else a

/-- `Median3` of R76, the fixed three-comparison selector. -/
def median3 (a b c : Lux) : Lux :=
  luxMaxOf (luxMin a b) (luxMin (luxMaxOf a b) c)

/-- R77: the history after a push. -/
def pushHistory (v : Lux) (h : History) : History := ⟨some v, h.newest, h.middle⟩

/-- R77: the filter's output on a history: `NoDataV` if any slot holds it. -/
def medianOutput (h : History) : Option Lux :=
  match h.newest, h.middle, h.oldest with
  | some a, some b, some c => some (median3 a b c)
  | _, _, _ => none

end Sys2Proof.Machine
end

