-- ==== Sys2Proof/Machine/Proximity.lean ====
section
/-! DEFINITION. The hysteresis comparator (R81), the calibration constants (R82) and CALIBRATE_PROX (R83). -/

namespace Sys2Proof.Machine

/-- What `ProxCompare` returns (R81): the event, the new armed pair, and whether a transition happened. -/
structure Comparison where
  event : Bool
  hi : U16
  lo : U16
  transition : Bool
deriving DecidableEq, Repr

/-- `ProxCompare` of R81. The `> hi` test comes first. The near and the far case are the transitions (DEDUCED, log 24, safe:
no rule uses the flag). -/
def proxCompare (s : State) (raw : U16) : Comparison :=
  if raw.toNat > s.pxArmHi.toNat then ⟨true, s.derived.satProx, s.cfg.proxLo, true⟩
  else if raw.toNat < s.pxArmLo.toNat then ⟨false, s.cfg.proxHi, 0, true⟩
  else ⟨s.pxEvent, s.pxArmHi, s.pxArmLo, false⟩

/-- R82: `CAL_SAMPLES`. -/
def calSamples : Nat := 20

/-- R82: the low floor `F12`, 12 % of `SAT_PROX`. -/
def floor12 (satProx : U16) : Nat := 12 * satProx.toNat / 100

/-- R82: the high floor `F15`, 15 % of `SAT_PROX`. -/
def floor15 (satProx : U16) : Nat := 15 * satProx.toNat / 100

/-- R83: the mean-based low threshold is under the safety floor. -/
def calFloorApplies (satProx : U16) (mean : Nat) : Bool := decide (mean + 1000 < floor12 satProx)

/-- R83: the calibrated high threshold, not yet checked against 16 bits. -/
def calHi (satProx : U16) (mean : Nat) : Nat :=
  if calFloorApplies satProx mean then floor15 satProx else mean + 1500

/-- R83: the calibrated low threshold. -/
def calLo (satProx : U16) (mean : Nat) : Nat :=
  if calFloorApplies satProx mean then floor12 satProx else mean + 1000

/-- R83: `n` readings of the proximity channel; the running sum and maximum. -/
def calReadings (addr : SensorAddr) : (n sum mx : Nat) → Op (Nat × Nat)
  | 0, sum, mx => Op.done (sum, mx)
  | n + 1, sum, mx =>
    Op.andThen (memRead .hostCommand addr 6) fun r =>
      calReadings addr n (sum + (proxChannel r).toNat) (max mx (proxChannel r).toNat)

/-- What a successful calibration stores (R83). -/
structure Calibration where
  hi : U16
  lo : U16
  max : U16
deriving DecidableEq, Repr

/-- R83 from the mean on: the 16-bit check, then the two word writes. -/
def calWriteBack (p : Params) (satProx : U16) (readings : Nat × Nat) : Op Calibration :=
  let mean := readings.1 / calSamples
  let hi := BitVec.ofNat 16 (calHi satProx mean)
  let lo := BitVec.ofNat 16 (calLo satProx mean)
  if calHi satProx mean > 0xFFFF then Op.fail .outOfRange
  else
    Op.andThen (memWrite .hostCommand p.regPilt lo) fun _ =>
      Op.andThen (memWrite .hostCommand p.regPiht hi) fun _ =>
        Op.done ⟨hi, lo, BitVec.ofNat 16 readings.2⟩

/-- R83: the transactions and the arithmetic of CALIBRATE_PROX, up to its commit. -/
def calibration (s : State) : Except ErrorKind Calibration × State :=
  Op.andThen (calReadings s.params.regData calSamples 0 0) (calWriteBack s.params s.derived.satProx) s

/-- R83's commit: the configured pair, the armed pair and `PX_CAL_MAX`. -/
def State.commitCalibration (s : State) (c : Calibration) : State :=
  { s with
    cfg := { s.cfg with proxHi := c.hi, proxLo := c.lo }
    pxArmHi := c.hi
    pxArmLo := c.lo
    pxCalMax := c.max }

/-- CALIBRATE_PROX (R83). -/
def execCalibrateProx (s : State) : Host.Outcome State Fault Refusal :=
  .next <|
    if s.proxEn then
      match calibration s with
      | (.ok c, t) => (t.commitCalibration c).respondOk []
      | (.error e, t) => t.respondError e
    else s.respondError .invalidState

end Sys2Proof.Machine
end

