-- ==== Sys2Proof/Machine/Passes.lean ====
section
/-! DEFINITION. The trigger front end's step (R86), the dequeues (R89, R90) and the two pipeline passes (R91, R92). -/

namespace Sys2Proof.Machine

/-! ## Trigger front end -/

/-- R86: a status byte's requests are queued, and the step's status is OK. -/
def State.dispatch (s : State) (status : Byte) : State :=
  { s with
    alsPending := s.alsPending || requestsLight s.params status
    proxPending := s.proxPending || requestsProx s.params status
    dispLastStatus := statusOk }

/-- R86: Idle to Dispatching, one status read, the routing or the logged failure, back to Idle whatever the outcome. -/
def irqStep (s : State) : State :=
  match memRead .triggerFrontEnd s.params.regStatus 1 { s with dispState := .dispatching } with
  | (.ok r, t) => { t.dispatch (r.headD 0) with dispState := .idle }
  | (.error e, t) => { t with dispLastStatus := e.code, dispState := .idle }

/-- IRQ (R86). -/
def execIrq (s : State) : Host.Outcome State Fault Refusal := .next (irqStep s)

/-! ## Dequeue -/

/-- ALS_DEQ (R89); refused where R85 does not enable it (log 6). -/
def execAlsDeq (s : State) : Host.Outcome State Fault Refusal :=
  if alsDeqEnabled s then .next { s with alsPending := false, alsBusy := true } else .refused .notEnabled

/-- PROX_DEQ (R90); refused where R85 does not enable it (log 6). -/
def execProxDeq (s : State) : Host.Outcome State Fault Refusal :=
  if proxDeqEnabled s then .next { s with proxPending := false, proxBusy := true } else .refused .notEnabled

/-! ## Light pass -/

/-- R91: the light pass up to its commit: read, AILT, AIHT, ALS clear, `LuxEval`. -/
def lightBody (s : State) : Except ErrorKind Lux × State :=
  Op.andThen (memRead .lightUnit s.params.regData 4) (fun r =>
    Op.andThen (memWrite .lightUnit s.params.regAilt (alsWindowLo (clearChannel r))) fun _ =>
      Op.andThen (memWrite .lightUnit s.params.regAiht (alsWindowHi (clearChannel r))) fun _ =>
        Op.andThen (busSF .lightUnit sfAlsCode) fun _ =>
          match luxEval s.cfg s.derived (clearChannel r) (irChannel r) with
          | .ok v => Op.done (BitVec.ofNat 32 v)
          | .error e => Op.fail e) s

/-- R91's commit, with `MedianPush` (R77). -/
def State.commitLight (s : State) (v : Lux) : State :=
  { s with
    hist := pushHistory v s.hist
    luxPub := medianOutput (pushHistory v s.hist)
    alsBusy := false
    alsLastStatus := statusOk }

/-- R91: one light pass; a noop but for its busy flag when light mode is disabled. -/
def lightPass (s : State) : State :=
  if s.alsEn then
    match lightBody s with
    | (.ok v, t) => t.commitLight v
    | (.error e, t) => t.abortLight e
  else { s with alsBusy := false }

/-- ALS_EXEC (R91); refused where R85 does not enable it (log 6). -/
def execAlsExec (s : State) : Host.Outcome State Fault Refusal :=
  if alsExecEnabled s then .next (lightPass s) else .refused .notEnabled

/-! ## Proximity pass -/

/-- What a successful proximity pass publishes (R92). -/
structure ProxResult where
  clear : U16
  raw : U16
  compared : Comparison
deriving DecidableEq, Repr

/-- R92: the proximity pass up to its commit: read, ambient guard, compare, PILT, PIHT, proximity clear. -/
def proxBody (s : State) : Except ErrorKind ProxResult × State :=
  Op.andThen (memRead .proxUnit s.params.regData 6) (fun r =>
    if ambientSwamped s.derived.satAls (clearChannel r) then Op.fail .noData
    else
      Op.andThen (memWrite .proxUnit s.params.regPilt (proxCompare s (proxChannel r)).lo) fun _ =>
        Op.andThen (memWrite .proxUnit s.params.regPiht (proxCompare s (proxChannel r)).hi) fun _ =>
          Op.andThen (busSF .proxUnit sfProxCode) fun _ =>
            Op.done ⟨clearChannel r, proxChannel r, proxCompare s (proxChannel r)⟩) s

/-- R92's commit. -/
def State.commitProx (s : State) (r : ProxResult) : State :=
  { s with
    pxArmHi := r.compared.hi
    pxArmLo := r.compared.lo
    pxEvent := r.compared.event
    pxInfoClear := r.clear
    pxInfoRaw := r.raw
    proxBusy := false
    proxLastStatus := statusOk }

/-- R92: one proximity pass; a noop but for its busy flag when proximity mode is disabled. -/
def proxPass (s : State) : State :=
  if s.proxEn then
    match proxBody s with
    | (.ok r, t) => t.commitProx r
    | (.error e, t) => t.abortProx e
  else { s with proxBusy := false }

/-- PROX_EXEC (R92); refused where R85 does not enable it (log 6). -/
def execProxExec (s : State) : Host.Outcome State Fault Refusal :=
  if proxExecEnabled s then .next (proxPass s) else .refused .notEnabled

end Sys2Proof.Machine
end

