-- ==== Sys2Proof/Machine/SensorPort.lean ====
section
/-! DEFINITION. The rows of format "sensor" (R52 to R55), each run by itself as the sensor-port primitive of R10 whose
command byte it is (DESIGN CHOICE, log 8): the transaction is issued, the sensor answers, and the event history records it
(R33). Its reply goes to no register: the operations of R85 alone use replies. -/

namespace Sys2Proof.Machine

/-- SENSOR_BYTE (R53): the 1-byte read of one register. -/
def execSensorByte (addr : SensorAddr) (s : State) : Host.Outcome State Fault Refusal :=
  .next (memRead .bare addr 1 s).2

/-- R54: the transaction of an auto-increment command byte. -/
def autoTransfer (addr : SensorAddr) (xfer : Xfer) (s : State) : State :=
  match xfer with
  | .read4 => (memRead .bare addr 4 s).2
  | .read6 => (memRead .bare addr 6 s).2
  | .write v => (memWrite .bare addr v s).2

/-- SENSOR_AUTO (R54); a transfer that would run past 0x1F faults (R38, log 10). -/
def execSensorAuto (addr : SensorAddr) (xfer : Xfer) (s : State) : Host.Outcome State Fault Refusal :=
  if withinSensorSpace addr xfer.count then .next (autoTransfer addr xfer s) else .fault .beyondSensorSpace

/-- SF_PROX_CLR (R55). -/
def execSfProxClr (s : State) : Host.Outcome State Fault Refusal := .next (busSF .bare sfProxCode s).2

/-- SF_ALS_CLR (R55). -/
def execSfAlsClr (s : State) : Host.Outcome State Fault Refusal := .next (busSF .bare sfAlsCode s).2

/-- SF_BOTH_CLR (R55). -/
def execSfBothClr (s : State) : Host.Outcome State Fault Refusal := .next (busSF .bare sfBothCode s).2

end Sys2Proof.Machine
end

