-- ==== Sys2Proof/Machine/Dispatch.lean ====
section
/-! DEFINITION. One arm per operation of the opcode table. -/

namespace Sys2Proof.Machine

def exec (i : Instr) (s : State) : Host.Outcome State Fault Refusal :=
  match i with
  | .lightOn => Sys2Proof.Machine.execLightOn s
  | .lightOff => Sys2Proof.Machine.execLightOff s
  | .readLight => Sys2Proof.Machine.execReadLight s
  | .calibrateLight => Sys2Proof.Machine.execCalibrateLight s
  | .proxOn => Sys2Proof.Machine.execProxOn s
  | .proxOff => Sys2Proof.Machine.execProxOff s
  | .readProxInfo => Sys2Proof.Machine.execReadProxInfo s
  | .readProxEvent => Sys2Proof.Machine.execReadProxEvent s
  | .calibrateProx => Sys2Proof.Machine.execCalibrateProx s
  | .getConfig => Sys2Proof.Machine.execGetConfig s
  | .setConfig record => Sys2Proof.Machine.execSetConfig record s
  | .triggerAls => Sys2Proof.Machine.execTriggerAls s
  | .triggerProx => Sys2Proof.Machine.execTriggerProx s
  | .sensorByte addr => Sys2Proof.Machine.execSensorByte addr s
  | .sensorAuto addr xfer => Sys2Proof.Machine.execSensorAuto addr xfer s
  | .sfProxClr => Sys2Proof.Machine.execSfProxClr s
  | .sfAlsClr => Sys2Proof.Machine.execSfAlsClr s
  | .sfBothClr => Sys2Proof.Machine.execSfBothClr s
  | .irq => Sys2Proof.Machine.execIrq s
  | .alsDeq => Sys2Proof.Machine.execAlsDeq s
  | .alsExec => Sys2Proof.Machine.execAlsExec s
  | .proxDeq => Sys2Proof.Machine.execProxDeq s
  | .proxExec => Sys2Proof.Machine.execProxExec s

end Sys2Proof.Machine
end

