-- ==== Sys2Proof/Machine/Scheduler.lean ====
section
/-! DEFINITION. Which operation a step takes (R85): the environment's choice, read from the state or free once the listed
choices are used up (R39, log 4). A choice that R85 does not enable takes no operation (log 5). -/

namespace Sys2Proof.Machine

/-- The environment's next choice. -/
def State.nextPick (s : State) : Pick := s.schedule.headD (Config.freePick s.freeCount)

/-- The state with that choice used. -/
def State.afterPick (s : State) : State :=
  { s with
    schedule := s.schedule.tail
    freeCount := if s.schedule.isEmpty then s.freeCount + 1 else s.freeCount }

/-- R43: the host puts a command on its port; while one is outstanding such a move "is given no step" (R117). -/
def State.issueCommand (s : State) (command : List Byte) : State :=
  match s.hostCmd with
  | none => { s with hostCmd := some command }
  | some _ => s

/-- R50: an encoded host command runs the operation it decodes to, or completes as an illegal command (R45). -/
def runCommand (bytes : List Byte) (s : State) : Host.Outcome State Fault Refusal :=
  match decodeHost bytes with
  | .ok i => exec i s
  | .error _ => .next s.respondIllegal

/-- R85: the outstanding host command is run; with none outstanding the host has no step. -/
def runHost (s : State) : Host.Outcome State Fault Refusal :=
  match s.hostCmd with
  | some bytes => runCommand bytes s
  | none => .next s

/-- R85: an operation is taken where it is enabled, and not taken elsewhere. -/
def runIf (enabled : Bool) (i : Instr) (s : State) : Host.Outcome State Fault Refusal :=
  if enabled then exec i s else .next s

/-- One choice of the environment, taken. -/
def runPick (p : Pick) (s : State) : Host.Outcome State Fault Refusal :=
  match p with
  | .issue command => .next (s.issueCommand command)
  | .host => runHost s
  | .signal => runIf (signalAccepted s) .irq s
  | .alsDeq => runIf (alsDeqEnabled s) .alsDeq s
  | .alsExec => runIf (alsExecEnabled s) .alsExec s
  | .proxDeq => runIf (proxDeqEnabled s) .proxDeq s
  | .proxExec => runIf (proxExecEnabled s) .proxExec s
  | .reset => .next s.resetEvent

/-- A sensor-port transaction asked for by itself (log 8); one the block never emits is refused (R56, log 11). -/
def runPort (req : PortReq) (s : State) : Host.Outcome State Fault Refusal :=
  match decodeSensor req with
  | .ok i => exec i s
  | .error _ => .refused .neverEmitted

/-- One step: a transaction asked for by itself if there is one, else the environment's choice. -/
def takeTurn (s : State) : Host.Outcome State Fault Refusal :=
  match s.portReq with
  | some req => runPort req { s with portReq := none }
  | none => runPick s.nextPick s.afterPick

/-- A table word placed where the next step finds it: a host command outstanding and the host's turn next, or a
sensor-port transaction asked for (log 12). -/
def State.placeRequest (s : State) : Request → State
  | .host bytes => { s with hostCmd := some bytes, schedule := .host :: s.schedule, portReq := none }
  | .sensor req => { s with portReq := some req }

end Sys2Proof.Machine
end

