-- ==== Sys2Proof/Machine/Step.lean ====
section
/-! DEFINITION. One step of the block, and the placing of a table word for the next step. -/

namespace Sys2Proof.Machine

/-- One step of the transition system of R85. -/
def step (s : State) : Host.Outcome State Fault Refusal := takeTurn s

/-- `s` with the operation of a table word placed so that the very next step runs it (log 12). -/
def State.withFetchWord (s : State) (nbits w : Nat) : State := s.placeRequest (tableRequest nbits w)

end Sys2Proof.Machine
end

