-- ==== Sys2Proof/Machine/Assembler.lean ====
section
/-! DEFINITION. The assembler syntax of R58, on tokens (DESIGN CHOICE, log 23): the cutting of a text into lines and
tokens, and the dropping of comments, are left to the text's reader. A trace loads into a state as the environment's
choices and the sensor's answers. -/

namespace Sys2Proof.Machine

/-- R58: what stands after a mnemonic: nothing, SET_CONFIG's brace list of named fields, or `cfg(NAME)`. -/
inductive AsmOperand where
  | none
  | fields (values : List (String × Nat))
  | named (name : String)
deriving DecidableEq, Repr

/-- R58: one line of a trace: a host or unit operation by its name, or a sensor answer after its transaction. -/
inductive TraceLine where
  /-- A mnemonic of R44 or an operation name of R51, with its operand. -/
  | op (name : String) (operand : AsmOperand)
  /-- `<- ok [b0 b1 ...]` or `<- ok`. -/
  | answerOk (bytes : List Byte)
  /-- `<- err`. -/
  | answerErr
deriving DecidableEq, Repr

/-- R58: the sixteen field names of the brace list, in R49's order, with the width each value has to fit. -/
def asmFields : List (String × Nat) :=
  [("cal_target", 32), ("als_time", 16), ("scale", 16), ("gain_trim", 16), ("filter_depth", 8), ("filter_count", 8),
   ("gain", 8), ("prox_hi", 16), ("prox_lo", 16), ("prox_int_time", 8), ("prox_adc_time", 8), ("prox_wait_time", 8),
   ("prox_intr_filter", 8), ("prox_config", 8), ("prox_pulse_cnt", 8), ("prox_gain", 8)]

/-- The value a brace list gives a field; `none` where it gives none or one too wide. -/
def asmField (values : List (String × Nat)) (name : String) (width : Nat) : Option Nat :=
  match values.lookup name with
  | some v => if v < 2 ^ width then some v else none
  | none => none

/-- R58: the record a brace list names. It names all sixteen fields, and no other name or field twice. -/
def asmRecord (values : List (String × Nat)) : Option DeviceConfig :=
  if values.length = asmFields.length then
    match asmFields.mapM fun f => (asmField values f.1 f.2).map fun v => bytesLe (f.2 / 8) v with
    | some bytes => some (decodeConfig bytes.flatten)
    | none => none
  else none

/-- R44: the command a host mnemonic names, for the twelve with no operand. -/
def asmCommand (name : String) : Option Instr :=
  [("LIGHT_ON", Instr.lightOn), ("LIGHT_OFF", .lightOff), ("READ_LIGHT", .readLight),
   ("CALIBRATE_LIGHT", .calibrateLight), ("PROX_ON", .proxOn), ("PROX_OFF", .proxOff),
   ("READ_PROX_INFO", .readProxInfo), ("READ_PROX_EVENT", .readProxEvent), ("CALIBRATE_PROX", .calibrateProx),
   ("GET_CONFIG", .getConfig), ("TRIGGER_ALS", .triggerAls), ("TRIGGER_PROX", .triggerProx)].lookup name

/-- R51: the step an operation name of a trace stands for. -/
def asmUnit (name : String) : Option Pick :=
  [("IRQ", Pick.signal), ("ALS_DEQ", .alsDeq), ("ALS_EXEC", .alsExec), ("PROX_DEQ", .proxDeq),
   ("PROX_EXEC", .proxExec)].lookup name

/-- R58: the host command a line stands for; `records` are the records defined in the same text. -/
def asmHost (records : List (String × DeviceConfig)) (name : String) (operand : AsmOperand) : Option Instr :=
  match operand with
  | .none => asmCommand name
  | .fields values => if name = "SET_CONFIG" then (asmRecord values).map Instr.setConfig else none
  | .named n => if name = "SET_CONFIG" then (records.lookup n).map Instr.setConfig else none

/-- The choices a host command takes: the host issues its bytes and the block runs it (R43). -/
def commandPicks (i : Instr) : Option (List Pick) :=
  match encode i with
  | some (.host bytes) => some [.issue bytes, .host]
  | _ => none

/-- The choices an operation line stands for. -/
def asmPicks (records : List (String × DeviceConfig)) (name : String) (operand : AsmOperand) : Option (List Pick) :=
  match asmHost records name operand with
  | some i => commandPicks i
  | none => if operand = .none then (asmUnit name).map fun p => [p] else none

/-- One trace line, loaded: its choices go to the end of the schedule, its answer to the end of the answers. -/
def loadLine (records : List (String × DeviceConfig)) (s : State) : TraceLine → Option State
  | .op name operand => (asmPicks records name operand).map fun ps => { s with schedule := s.schedule ++ ps }
  | .answerOk bytes => some { s with answers := s.answers ++ [⟨true, BitVec.ofNat 48 (natLe bytes)⟩] }
  | .answerErr => some { s with answers := s.answers ++ [⟨false, 0⟩] }

/-- R58: a trace, loaded line by line; `none` where a line is no line of the syntax. -/
def loadTrace (records : List (String × DeviceConfig)) : List TraceLine → State → Option State
  | [], s => some s
  | line :: rest, s =>
    match loadLine records s line with
    | some t => loadTrace records rest t
    | none => none

end Sys2Proof.Machine
end

