-- ==== Sys2Proof/Safety.lean ====
section
/-! DEFINITION. What counts as a good state and a good run, in the words the claims use: the parameter constraints (R30,
R31, R124), the invariants (R28), quiescence (R126), the transactions the block may issue (R32, R35, R56), runs, weak
fairness (R85), and runs with finitely many inputs (R126). -/

namespace Sys2Proof.Machine

/-- R28 (I1): 50, 100, ..., 650. -/
def validAlsTime (t : U16) : Bool :=
  decide (50 ≤ t.toNat) && decide (t.toNat ≤ 650) && decide (t.toNat % 50 = 0)

/-- R124: a record SET_CONFIG accepts and stores as it is. -/
def storable (cfg : DeviceConfig) : Bool := validAlsTime cfg.alsTime && thresholdsOrdered cfg

/-- The constraints on the parameters: R30 (addresses), R31 (distinct bits), R124 (DEFAULT_CONFIG). -/
def paramsOk (p : Params) : Bool :=
  decide (p.regData.toNat + 5 ≤ 0x1F) && decide (p.regAilt.toNat + 1 ≤ 0x1F) && decide (p.regAiht.toNat + 1 ≤ 0x1F)
    && decide (p.regPilt.toNat + 1 ≤ 0x1F) && decide (p.regPiht.toNat + 1 ≤ 0x1F)
    && decide (p.aintBit ≠ p.pintBit) && storable p.defaultConfig

/-- R18, R19: a slot holds `NoDataV` or a value in 0..65 535 000. -/
def luxSlotOk : Option Lux → Bool
  | none => true
  | some v => decide (v.toNat ≤ luxMax)

/-- R106: the codes a pass records; 5 (IllegalCommand) is a host response only, and 6 to 0xFF are never produced. -/
def recordedCodeOk (c : Byte) : Bool := decide (c.toNat ≤ 4)

/-- R28, with the ranges of R18, R19 and R106. (I4) follows from (I3), and (I5) is in the types. -/
structure Inv (s : State) : Prop where
  params : paramsOk s.params = true
  /-- (I1). -/
  alsTime : validAlsTime s.cfg.alsTime = true
  /-- (I2). -/
  thresholds : thresholdsOrdered s.cfg = true
  /-- (I3). -/
  derived : s.derived = derive s.cfg
  /-- (I6). -/
  idle : s.dispState = .idle
  newest : luxSlotOk s.hist.newest = true
  middle : luxSlotOk s.hist.middle = true
  oldest : luxSlotOk s.hist.oldest = true
  published : luxSlotOk s.luxPub = true
  lightStatus : recordedCodeOk s.alsLastStatus = true
  proxStatus : recordedCodeOk s.proxLastStatus = true
  dispatchStatus : recordedCodeOk s.dispLastStatus = true

/-- R45: the byte sequences with a first byte that are illegal commands: a reserved first byte, or a total length other
than `1 + plen(op)`. -/
def illegalCommand (op : Byte) (payload : List Byte) : Prop :=
  op.toNat = 0 ∨ 0x0E ≤ op.toNat ∨ payload.length ≠ if op = 0x0B then 24 else 0

/-- R56: a command byte the block never emits. -/
def neverEmittedCommand (cmd : Byte) : Prop :=
  cmd.getLsbD 7 = false ∨ commandType cmd = 0b10
    ∨ (commandType cmd = 0b11 ∧ commandField cmd ≠ 5 ∧ commandField cmd ≠ 6 ∧ commandField cmd ≠ 7)

/-- R126: `ALS_PENDING = ALS_BUSY = PROX_PENDING = PROX_BUSY = 0`: no pass is queued or in flight. -/
def unitsIdle (s : State) : Bool := !s.alsPending && !s.alsBusy && !s.proxPending && !s.proxBusy

/-- R126: no command outstanding, no pass queued or in flight. -/
def quiescent (s : State) : Bool := s.hostCmd.isNone && unitsIdle s

/-- R56: a command byte the block may emit: bit 7 set, not of type `10`, and a special function only 5, 6 or 7. -/
def emittable (cmd : Byte) : Bool :=
  cmd.getLsbD 7 && (commandType cmd != 2)
    && (commandType cmd != 3 || commandField cmd == 5 || commandField cmd == 6 || commandField cmd == 7)

/-- R32, R35: the transactions of the block's own operations: the status read, the two data bursts, the four threshold
words, and the two special functions it issues. -/
def ownTransaction (p : Params) (e : PortEvent) : Prop :=
  (e.cmd = byteModeCommand p.regStatus ∧ e.count = 1)
    ∨ (e.cmd = autoModeCommand p.regData ∧ (e.count = 4 ∨ e.count = 6))
    ∨ ((e.cmd = autoModeCommand p.regAilt ∨ e.cmd = autoModeCommand p.regAiht ∨ e.cmd = autoModeCommand p.regPilt
        ∨ e.cmd = autoModeCommand p.regPiht) ∧ e.count = 2 ∧ e.data.length = 2)
    ∨ ((e.cmd = 0xE5 ∨ e.cmd = 0xE6) ∧ e.count = 0 ∧ e.data = [])

/-- R33: the state after transactions whose entries are `es`: their answers used, the entries appended in order. -/
def State.afterTransactions (s : State) (es : List PortEvent) : State :=
  { s.afterAnswers es.length with history := s.history ++ es }

/-- R91: the four transactions of a light pass, in order, with the answers they would get. -/
def lightEntries (s : State) : List PortEvent :=
  let clear := clearChannel (answerBytes (s.answerAt 0) 4)
  [readEvent .lightUnit s.params.regData 4 (s.answerAt 0),
   writeEvent .lightUnit s.params.regAilt (alsWindowLo clear) (s.answerAt 1),
   writeEvent .lightUnit s.params.regAiht (alsWindowHi clear) (s.answerAt 2),
   functionEvent .lightUnit sfAlsCode (s.answerAt 3)]

/-- R92: the four transactions of a proximity pass, in order, with the answers they would get. -/
def proxEntries (s : State) : List PortEvent :=
  let compared := proxCompare s (proxChannel (answerBytes (s.answerAt 0) 6))
  [readEvent .proxUnit s.params.regData 6 (s.answerAt 0),
   writeEvent .proxUnit s.params.regPilt compared.lo (s.answerAt 1),
   writeEvent .proxUnit s.params.regPiht compared.hi (s.answerAt 2),
   functionEvent .proxUnit sfProxCode (s.answerAt 3)]

/-- R83: the proximity readings of a calibration, as numbers. -/
def calSampleList (s : State) : List Nat :=
  (List.range 20).map fun k => (proxChannel (answerBytes (s.answerAt k) 6)).toNat

/-- R83: `mean`, "sum div 20". -/
def calMean (s : State) : Nat := (calSampleList s).sum / 20

/-- R83: the twenty reads and the two word writes of a calibration, in order, with the answers they would get. -/
def calEntries (s : State) : List PortEvent :=
  ((List.range 20).map fun k => readEvent .hostCommand s.params.regData 6 (s.answerAt k))
    ++ [writeEvent .hostCommand s.params.regPilt (BitVec.ofNat 16 (calLo s.derived.satProx (calMean s))) (s.answerAt 20),
        writeEvent .hostCommand s.params.regPiht (BitVec.ofNat 16 (calHi s.derived.satProx (calMean s))) (s.answerAt 21)]

/-- R15: a configuration with the eight "stored only" fields blanked. -/
def blankStored (c : DeviceConfig) : DeviceConfig :=
  { c with
    gainTrim := 0
    filterDepth := 0
    filterCount := 0
    proxWaitTime := 0
    proxIntrFilter := 0
    proxConfig := 0
    proxPulseCnt := 0
    proxGain := 0 }

/-- A state with the "stored only" fields blanked. -/
def State.blankStored (s : State) : State := { s with cfg := Sys2Proof.Machine.blankStored s.cfg }

/-- Two outcomes of the same kind whose states agree through a view, or whose reasons are equal. -/
def agreeThrough (view : State → State) : (x y : Host.Outcome State Fault Refusal) → Prop
  | .next s, .next t => view s = view t
  | .fault a, .fault b => a = b
  | .refused a, .refused b => a = b
  | _, _ => False

/-- A state with every register of the proximity pipeline blanked (R17, R20 to R24). -/
def State.blankProx (s : State) : State :=
  { s with
    proxEn := false
    pxInfoClear := 0
    pxInfoRaw := 0
    pxEvent := false
    pxArmHi := 0
    pxArmLo := 0
    pxCalMax := 0
    proxLastStatus := 0
    proxPending := false
    proxBusy := false }

/-- The light pipeline's registers and mode (R17, R18, R19, R23, R24). -/
def sameLight (s t : State) : Prop :=
  t.alsEn = s.alsEn ∧ t.hist = s.hist ∧ t.luxPub = s.luxPub ∧ t.alsLastStatus = s.alsLastStatus
    ∧ t.alsPending = s.alsPending ∧ t.alsBusy = s.alsBusy

/-- The proximity pipeline's registers and mode (R17, R20 to R24). -/
def sameProx (s t : State) : Prop :=
  t.proxEn = s.proxEn ∧ t.pxInfoClear = s.pxInfoClear ∧ t.pxInfoRaw = s.pxInfoRaw ∧ t.pxEvent = s.pxEvent
    ∧ t.pxArmHi = s.pxArmHi ∧ t.pxArmLo = s.pxArmLo ∧ t.pxCalMax = s.pxCalMax
    ∧ t.proxLastStatus = s.proxLastStatus ∧ t.proxPending = s.proxPending ∧ t.proxBusy = s.proxBusy

/-- R85: where the four operations of the light and proximity units are enabled. -/
def unitEnabled (p : Pick) (s : State) : Bool :=
  match p with
  | .alsDeq => alsDeqEnabled s
  | .alsExec => alsExecEnabled s
  | .proxDeq => proxDeqEnabled s
  | .proxExec => proxExecEnabled s
  | .issue _ | .host | .signal | .reset => false

/-- R85: a run of the transition system: at every point the environment's choice is taken. -/
def isRun (states : Nat → State) (picks : Nat → Pick) : Prop :=
  ∀ n, runPick (picks n) (states n) = .next (states (n + 1))

/-- R85: weak fairness for the dequeue and execute operations: one that stays enabled is eventually taken. -/
def weaklyFair (states : Nat → State) (picks : Nat → Pick) : Prop :=
  ∀ p ∈ [Pick.alsDeq, .alsExec, .proxDeq, .proxExec], ∀ n,
    (∀ m, n ≤ m → unitEnabled p (states m) = true) → ∃ m, n ≤ m ∧ picks m = p

/-- R126: the choices that are inputs: the host issues a command, a signal event, a reset event. The host's turn runs a
command already issued (log 7), and the unit operations are the block's own. -/
def isInput : Pick → Bool
  | .issue _ | .signal | .reset => true
  | .host | .alsDeq | .alsExec | .proxDeq | .proxExec => false

/-- R126: a run with finitely many inputs: from some point on no choice is one. -/
def finitelyManyInputs (picks : Nat → Pick) : Prop := ∃ last, ∀ n, last ≤ n → isInput (picks n) = false

/-- R43: a command that stays outstanding is eventually run. R85 lists no fairness for it (DEDUCED, log 25, safe). -/
def commandsExecuted (states : Nat → State) (picks : Nat → Pick) : Prop :=
  ∀ n, (∀ m, n ≤ m → (states m).hostCmd.isSome = true) → ∃ m, n ≤ m ∧ picks m = .host

/-- R126: how many of a run's first `n` choices are inputs. -/
def inputsBefore (picks : Nat → Pick) (n : Nat) : Nat := (List.range n).countP fun k => isInput (picks k)

/-- R85, R126: how many times a unit's operation is taken, where it is enabled, among a run's first `n` choices. -/
def takenBefore (p : Pick) (states : Nat → State) (picks : Nat → Pick) (n : Nat) : Nat :=
  (List.range n).countP fun k => decide (picks k = p) && unitEnabled p (states k)

/-- The choices of a list, taken one after another (R39: one total order). -/
def runPicks : List Pick → State → Host.Outcome State Fault Refusal
  | [], s => .next s
  | p :: rest, s =>
    match runPick p s with
    | .next t => runPicks rest t
    | .fault r => .fault r
    | .refused r => .refused r

/-- R126: a finite run from `s` ends in a quiescent state, which holds its result: the registers and the history. -/
def runEndsIn (ps : List Pick) (s t : State) : Prop := runPicks ps s = .next t ∧ quiescent t = true

end Sys2Proof.Machine
end

