-- ==== Sys2Proof/Certificates/Slice0/Obligations.lean ====
section
/-! DEFINITION. The statements for the provers, in the order of the spec's files. `State.afterPick` is the state with the
environment's choice used, `State.afterTransactions es` the state with `es.length` sensor answers used and `es` appended
to the event history. A host command's response (R43) is read as `responses` growing by it and `hostCmd` falling free; that
form is the model's (log 7). -/

open Sys2Proof Sys2Proof.Machine

/-! ## Encodings -/

/-- R44, R52 to R55: a few words of the opcode table, written out from the spec, decode to their operations. -/
def Obligations.TableWordsDecode : Prop :=
  decodeTableWord 8 0x01 = some .lightOn ∧ decodeTableWord 8 0x09 = some .calibrateProx
    ∧ decodeTableWord 8 0x0D = some .triggerProx ∧ decodeTableWord 8 0x93 = some (.sensorByte 0x13)
    ∧ decodeTableWord 8 0xE6 = some .sfAlsClr
    ∧ (decodeSensor ⟨[0xB4], 4⟩).toOption = some (.sensorAuto 0x14 .read4)
    ∧ (decodeSensor ⟨[0xA4, 0x20, 0x03], 2⟩).toOption = some (.sensorAuto 0x04 (.write 800))
    ∧ (decodeHost [0x0B, 0xA0, 0x86, 0x01, 0x00, 0x32, 0x00, 0x01, 0x00, 0x00, 0x02, 0x03, 0x01, 0x00, 0x1C, 0x25, 0x28,
        0x23, 0xEE, 0x00, 0xEE, 0x00, 0x00, 0x08, 0x00]).toOption = some (.setConfig Config.testConfig)

/-- Decode and encode agree: every well-formed operation that has an encoding decodes to itself. -/
def Obligations.DecodeOfEncodeIsTheOperation : Prop :=
  ∀ (i : Instr) (r : Request), i.wellFormed = true → encode i = some r → decode r = .ok i

/-- Each encoded form has one meaning: whatever decodes to an operation is that operation's encoding. -/
def Obligations.EncodeOfDecodeIsTheRequest : Prop :=
  ∀ (r : Request) (i : Instr), decode r = .ok i → encode i = some r

/-- R49: the record's fields lie at the table's offsets, least significant byte first, and encoding is the inverse. -/
def Obligations.ConfigRecordLayout : Prop :=
  ∀ rec : List Byte, rec.length = 24 →
    (decodeConfig rec).calTarget.toNat
        = (rec.getD 0 0).toNat + (rec.getD 1 0).toNat * 2 ^ 8 + (rec.getD 2 0).toNat * 2 ^ 16
          + (rec.getD 3 0).toNat * 2 ^ 24
      ∧ (decodeConfig rec).alsTime.toNat = (rec.getD 4 0).toNat + (rec.getD 5 0).toNat * 2 ^ 8
      ∧ (decodeConfig rec).scale.toNat = (rec.getD 6 0).toNat + (rec.getD 7 0).toNat * 2 ^ 8
      ∧ (decodeConfig rec).gainTrim.toNat = (rec.getD 8 0).toNat + (rec.getD 9 0).toNat * 2 ^ 8
      ∧ (decodeConfig rec).filterDepth = rec.getD 10 0 ∧ (decodeConfig rec).filterCount = rec.getD 11 0
      ∧ (decodeConfig rec).gain = rec.getD 12 0
      ∧ (decodeConfig rec).proxHi.toNat = (rec.getD 13 0).toNat + (rec.getD 14 0).toNat * 2 ^ 8
      ∧ (decodeConfig rec).proxLo.toNat = (rec.getD 15 0).toNat + (rec.getD 16 0).toNat * 2 ^ 8
      ∧ (decodeConfig rec).proxIntTime = rec.getD 17 0 ∧ (decodeConfig rec).proxAdcTime = rec.getD 18 0
      ∧ (decodeConfig rec).proxWaitTime = rec.getD 19 0 ∧ (decodeConfig rec).proxIntrFilter = rec.getD 20 0
      ∧ (decodeConfig rec).proxConfig = rec.getD 21 0 ∧ (decodeConfig rec).proxPulseCnt = rec.getD 22 0
      ∧ (decodeConfig rec).proxGain = rec.getD 23 0
      ∧ encodeConfig (decodeConfig rec) = rec

/-- R50: the host decoder is total, and refuses exactly the empty sequence (log 21) and R45's illegal commands. -/
def Obligations.HostDecoderRefusesExactlyIllegalCommands : Prop :=
  decodeHost [] = .error .emptyCommand
    ∧ ∀ (op : Byte) (payload : List Byte),
      (∃ i, decodeHost (op :: payload) = .ok i) ↔ ¬ illegalCommand op payload

/-- R45: an illegal command completes with status 5 and no payload, writes no register and issues no transaction. -/
def Obligations.IllegalCommandCompletesWithStatusFive : Prop :=
  ∀ (s : State) (op : Byte) (payload : List Byte),
    s.portReq = none → s.nextPick = .host → s.hostCmd = some (op :: payload) → illegalCommand op payload →
      step s = .next { s.afterPick with hostCmd := none, responses := s.responses ++ [[0x05]] }

/-- R37: the channels of a burst are its little-endian byte pairs: clear, ir, proximity; a word goes out low byte first. -/
def Obligations.BurstChannelsAreLittleEndianPairs : Prop :=
  ∀ a : Answer,
    clearChannel (answerBytes a 4) = a.data.extractLsb' 0 16 ∧ irChannel (answerBytes a 4) = a.data.extractLsb' 16 16
      ∧ clearChannel (answerBytes a 6) = a.data.extractLsb' 0 16 ∧ irChannel (answerBytes a 6) = a.data.extractLsb' 16 16
      ∧ proxChannel (answerBytes a 6) = a.data.extractLsb' 32 16
      ∧ ∀ v : U16, wordBytes v = [v.extractLsb' 0 8, v.extractLsb' 8 8]

/-- R58 on tokens (log 23): a mnemonic line loads the issuing and the running of bytes that decode to its command. -/
def Obligations.MnemonicLineLoadsItsCommand : Prop :=
  ∀ (records : List (String × DeviceConfig)) (name : String) (i : Instr) (s : State), asmCommand name = some i →
    ∃ bytes, decodeHost bytes = .ok i
      ∧ loadLine records s (.op name .none) = some { s with schedule := s.schedule ++ [.issue bytes, .host] }

/-! ## Steps -/

/-- A step runs the decoded host command (R43, R85): with the host's turn next and an outstanding command that decodes to
`i`, the step is `i`'s meaning, on the state with the choice used. -/
def Obligations.StepRunsDecodedHostCommand : Prop :=
  ∀ (s : State) (bytes : List Byte) (i : Instr),
    s.portReq = none → s.nextPick = .host → s.hostCmd = some bytes → decodeHost bytes = .ok i →
      step s = exec i s.afterPick

/-- R85, R43, R117: the units' operations and IRQ are taken where they are enabled; where they are not, none is taken
(log 5); the host port holds one command, and a second one sent before the response changes nothing (log 7). That a signal
while the front end is Dispatching runs no IRQ is the model's reading of R25 and R113 (log 13). -/
def Obligations.StepTakesEnabledOperations : Prop :=
  ∀ s : State, s.portReq = none →
    (s.nextPick = .signal →
        step s = if s.dispState = .idle then exec .irq s.afterPick else .next s.afterPick)
      ∧ (s.nextPick = .alsDeq →
          step s = if s.alsPending = true ∧ s.alsBusy = false then exec .alsDeq s.afterPick else .next s.afterPick)
      ∧ (s.nextPick = .alsExec → step s = if s.alsBusy = true then exec .alsExec s.afterPick else .next s.afterPick)
      ∧ (s.nextPick = .proxDeq →
          step s = if s.proxPending = true ∧ s.proxBusy = false then exec .proxDeq s.afterPick else .next s.afterPick)
      ∧ (s.nextPick = .proxExec → step s = if s.proxBusy = true then exec .proxExec s.afterPick else .next s.afterPick)
      ∧ ∀ command, s.nextPick = .issue command →
          step s = .next { s.afterPick with hostCmd := some (s.hostCmd.getD command) }

/-- The model's choice (log 8, log 11): a sensor-port transaction asked for by itself runs the operation it decodes to,
and is refused by name where its command byte is one the block never emits. -/
def Obligations.BareTransactionRunsOrIsRefused : Prop :=
  ∀ (s : State) (req : PortReq), s.portReq = some req →
    (∀ i, decodeSensor req = .ok i → step s = exec i { s with portReq := none })
      ∧ ((∃ cmd rest, req.bus = cmd :: rest ∧ neverEmittedCommand cmd) → step s = .refused .neverEmitted)

/-- R111: with no bare transaction asked for, no state stops the block, whatever the sensor and the environment do; and
no step changes the parameters (R5). -/
def Obligations.StepNeverStops : Prop :=
  ∀ s : State, s.portReq = none → ∃ t, step s = .next t ∧ t.portReq = none ∧ t.params = s.params

/-- R32, R33, R35: a step only appends to the event history, and what the block's own operations append is the status
read, a data burst, a threshold word or one of the two interrupt clears. -/
def Obligations.OnlyOwnTransactionsAreIssued : Prop :=
  ∀ s t : State, s.portReq = none → step s = .next t →
    ∃ es, t.history = s.history ++ es ∧ ∀ e ∈ es, ownTransaction s.params e

/-- R56: whatever a step appends to the history, its command byte is one the block may emit. -/
def Obligations.EmittedCommandBytesAreLegal : Prop :=
  ∀ s t : State, step s = .next t → ∃ es, t.history = s.history ++ es ∧ ∀ e ∈ es, emittable e.cmd = true

/-! ## Reset and invariants -/

/-- R123: a reset event sets every register of 10_state.md to its reset value; the outstanding command gets no response,
queued and in-flight passes are discarded, no transaction is issued and the event history is not cleared. That the port
falls free (log 15) and the responses already returned stay listed (log 14) is the model's choice. -/
def Obligations.ResetEventRestoresEveryRegister : Prop :=
  ∀ s : State, s.portReq = none → s.nextPick = .reset →
    ∃ t, step s = .next t
      ∧ t.cfg = s.params.defaultConfig ∧ t.derived = derive s.params.defaultConfig
      ∧ t.alsEn = false ∧ t.proxEn = false
      ∧ t.hist.newest = none ∧ t.hist.middle = none ∧ t.hist.oldest = none ∧ t.luxPub = none
      ∧ t.pxInfoClear = 0 ∧ t.pxInfoRaw = 0 ∧ t.pxEvent = false
      ∧ t.pxArmHi = s.params.defaultConfig.proxHi ∧ t.pxArmLo = s.params.defaultConfig.proxLo ∧ t.pxCalMax = 0
      ∧ t.alsLastStatus = 0 ∧ t.proxLastStatus = 0 ∧ t.dispLastStatus = 0
      ∧ t.alsPending = false ∧ t.alsBusy = false ∧ t.proxPending = false ∧ t.proxBusy = false
      ∧ t.dispState = .idle ∧ t.hostCmd = none ∧ t.responses = s.responses ∧ t.history = s.history

/-- The model's choice (log 1, log 2): the configuration and the parameters of `State.reset`. -/
def Obligations.ResetStateHoldsTheNamedChoice : Prop :=
  State.reset.cfg = Config.testConfig ∧ State.reset.params = Config.familyParams
    ∧ State.reset.derived = ⟨1, 1, 15000, 18432, 65535⟩

/-- R28: the invariants hold at `State.reset`. -/
def Obligations.InvariantsHoldAtReset : Prop := Inv State.reset

/-- R28 with R18, R19, R106: every step keeps the invariants, from every state that has them. -/
def Obligations.StepKeepsInvariants : Prop :=
  ∀ s t : State, Inv s → step s = .next t → Inv t

/-! ## Configuration store -/

/-- R59: the normalised time is the nearest multiple of 50 to the clamped one, ties up, and lies in 50, 100, ..., 650;
rounding first and clamping then gives the same. -/
def Obligations.NormalisedTimeIsNearestMultiple : Prop :=
  ∀ t : U16,
    (normAlsTime t).toNat % 50 = 0 ∧ 50 ≤ (normAlsTime t).toNat ∧ (normAlsTime t).toNat ≤ 650
      ∧ (normAlsTime t).toNat ≤ min (max t.toNat 50) 650 + 25
      ∧ min (max t.toNat 50) 650 < (normAlsTime t).toNat + 25
      ∧ (normAlsTime t).toNat = min (max ((t.toNat + 25) / 50 * 50) 50) 650

/-- R60: the five derived registers of a stored configuration, and their ranges. -/
def Obligations.DerivedRegistersFollowTheConfiguration : Prop :=
  ∀ cfg : DeviceConfig, validAlsTime cfg.alsTime = true →
    (derive cfg).ltsNum = 1
      ∧ (derive cfg).ltsDen.toNat * 50 = cfg.alsTime.toNat
      ∧ 1 ≤ (derive cfg).ltsDen.toNat ∧ (derive cfg).ltsDen.toNat ≤ 13
      ∧ (derive cfg).ltsSat.toNat = min (300 * cfg.alsTime.toNat) 65535
      ∧ (derive cfg).ltsSat.toNat ∈ [15000, 30000, 45000, 60000, 65535]
      ∧ (derive cfg).satAls.toNat = min ((256 - cfg.proxIntTime.toNat) <<< 10) 65535
      ∧ (derive cfg).satProx.toNat = min ((256 - cfg.proxAdcTime.toNat) <<< 10) 65535
      ∧ 1024 ≤ (derive cfg).satAls.toNat ∧ 1024 ≤ (derive cfg).satProx.toNat

/-- R61: SET_CONFIG, opcode 0x0B and 24 payload bytes, stores the normalised record and its derived registers, or
completes with OutOfRange and writes nothing; nothing else changes. -/
def Obligations.SetConfigCommitsOrRejects : Prop :=
  (∀ rec : List Byte, rec.length = 24 → decodeHost (0x0B :: rec) = .ok (.setConfig (decodeConfig rec)))
    ∧ ∀ (record : DeviceConfig) (s : State),
    exec (.setConfig record) s
      = .next
          (if record.proxLo.toNat ≥ record.proxHi.toNat then
            { s with hostCmd := none, responses := s.responses ++ [[0x04]] }
          else
            { s with
              cfg := { record with alsTime := normAlsTime record.alsTime }
              derived := derive { record with alsTime := normAlsTime record.alsTime }
              hostCmd := none
              responses := s.responses ++ [[0x00]] })

/-- R62: GET_CONFIG, opcode 0x0A, returns the stored record, and changes nothing. -/
def Obligations.GetConfigReturnsTheStoredRecord : Prop :=
  decodeHost [0x0A] = .ok .getConfig ∧ ∀ s : State,
    exec .getConfig s
      = .next { s with hostCmd := none, responses := s.responses ++ [0x00 :: encodeConfig s.cfg] }

/-- R63: SET_CONFIG applied to the record GET_CONFIG returns succeeds and leaves every register unchanged. -/
def Obligations.SetConfigOfGetConfigChangesNothing : Prop :=
  ∀ s : State, validAlsTime s.cfg.alsTime = true → thresholdsOrdered s.cfg = true → s.derived = derive s.cfg →
    runCommand (0x0B :: encodeConfig s.cfg) s
      = .next { s with hostCmd := none, responses := s.responses ++ [[0x00]] }

/-- R15: apart from a reset event, only SET_CONFIG and the two calibrations write the configuration, CALIBRATE_LIGHT only
its gain trim and CALIBRATE_PROX only its threshold pair; only SET_CONFIG writes the derived registers. -/
def Obligations.OnlyThreeCommandsWriteTheConfiguration : Prop :=
  ∀ (i : Instr) (s t : State), exec i s = .next t → (∀ record, i ≠ .setConfig record) →
    t.derived = s.derived
      ∧ (i = .calibrateLight → t.cfg = { s.cfg with gainTrim := t.cfg.gainTrim })
      ∧ (i = .calibrateProx → t.cfg = { s.cfg with proxHi := t.cfg.proxHi, proxLo := t.cfg.proxLo })
      ∧ (i ≠ .calibrateLight → i ≠ .calibrateProx → t.cfg = s.cfg)

/-- R15: the eight "stored only" fields are read by no operation but GET_CONFIG: two states that differ in them alone go
to states that differ in them alone. -/
def Obligations.StoredOnlyFieldsInfluenceNothing : Prop :=
  ∀ (i : Instr) (s s' : State), i ≠ .getConfig → s.blankStored = s'.blankStored →
    agreeThrough State.blankStored (exec i s) (exec i s')

/-! ## Lux engine -/

/-- R64, R65, R68, R69: `LuxEval` step by step: the gain table and the two checks of step 4, then saturation and zero,
the ratio's row (a ratio equal to a threshold selects the next row), and the rounded interpolation. -/
def Obligations.LuxEvalFollowsItsSteps : Prop :=
  ∀ (cfg : DeviceConfig) (d : Derived) (c0 c1 : U16) (cs is ratio : Nat),
    cs = max c0.toNat c1.toNat * cfg.scale.toNat → is = min c0.toNat c1.toNat * cfg.scale.toNat →
      ratio = (is <<< 15) / cs →
      luxEval cfg d c0 c1
        = match [1, 8, 16, 120][cfg.gain.toNat]? with
          | none => .error .outOfRange
          | some g =>
            if d.ltsDen = 0 then .error .outOfRange
            else if cs ≥ d.ltsSat.toNat ∨ is ≥ d.ltsSat.toNat then .ok 65535000
            else if cs = 0 then .ok 0
            else
              match
                (if ratio < 9830 then some (8320, 15360)
                else if ratio < 12452 then some (10554, 22797)
                else if ratio < 14746 then some (6234, 11430)
                else if ratio < 17695 then some (3968, 6400)
                else none) with
              | none => .ok 0
              | some (clearCoeff, irCoeff) =>
                .ok (min
                  ((((cs * clearCoeff - is * irCoeff + d.ltsDen.toNat / 2) / d.ltsDen.toNat * d.ltsNum.toNat + g / 2) / g)
                    >>> 3) 65535000)

/-- R70: the difference of step 7 is at least 1 wherever it is computed. -/
def Obligations.LuxDifferenceIsPositive : Prop :=
  ∀ (cs is : Nat) (row : RatioRow), 0 < cs → is ≤ cs → selectRow ratioTable (channelRatio cs is) = some row →
    1 + is * row.irCoeff ≤ cs * row.clearCoeff

/-- R71: a result that is not saturated is at most 15 599 740 millilux, and (59999, 0) at 200 ms reaches it. -/
def Obligations.UnsaturatedLuxIsBounded : Prop :=
  (∀ (cfg : DeviceConfig) (c0 c1 : U16) (v : Nat), validAlsTime cfg.alsTime = true →
      max c0.toNat c1.toNat * cfg.scale.toNat < (derive cfg).ltsSat.toNat →
      luxEval cfg (derive cfg) c0 c1 = .ok v → v ≤ 15599740)
    ∧ ∀ cfg : DeviceConfig, cfg.alsTime = 200 → cfg.scale = 1 → cfg.gain = 0 →
        luxEval cfg (derive cfg) 59999 0 = .ok 15599740

/-- R72: the lux value does not depend on the order of the channels; the ALS window, of the first channel alone, does. -/
def Obligations.LuxIsSymmetricInItsChannels : Prop :=
  (∀ (cfg : DeviceConfig) (d : Derived) (c0 c1 : U16), luxEval cfg d c0 c1 = luxEval cfg d c1 c0)
    ∧ (alsWindowLo 1000, alsWindowHi 1000) = (800, 1200) ∧ (alsWindowLo 100, alsWindowHi 100) = (80, 120)

/-- R69 step 4, R73: LuxEval raises OutOfRange exactly on a selector above 3 or a zero denominator, saturated or not;
where it does not, a zero scaled clear channel gives 0 and a saturated one 65 535 000. -/
def Obligations.LuxRaisesOrMeetsItsLimits : Prop :=
  (∀ (cfg : DeviceConfig) (d : Derived) (c0 c1 : U16),
      (luxEval cfg d c0 c1 = .error .outOfRange ↔ 3 < cfg.gain.toNat ∨ d.ltsDen.toNat = 0)
        ∧ (cfg.gain.toNat ≤ 3 → d.ltsDen.toNat ≠ 0 → ∃ v, luxEval cfg d c0 c1 = .ok v ∧ v ≤ 65535000))
    ∧ ∀ (cfg : DeviceConfig) (c0 c1 : U16), validAlsTime cfg.alsTime = true → cfg.gain.toNat ≤ 3 →
      (max c0.toNat c1.toNat * cfg.scale.toNat = 0 → luxEval cfg (derive cfg) c0 c1 = .ok 0)
        ∧ ((derive cfg).ltsSat.toNat ≤ max c0.toNat c1.toNat * cfg.scale.toNat →
            luxEval cfg (derive cfg) c0 c1 = .ok 65535000)

/-- R67: the ALS window of a raw clear channel, clamped at 16 bits, holds the channel. -/
def Obligations.AlsWindowHoldsItsChannel : Prop :=
  ∀ c0 : U16,
    (alsWindowLo c0).toNat + c0.toNat / 5 = c0.toNat
      ∧ (alsWindowHi c0).toNat = min (c0.toNat + c0.toNat / 5) 0xFFFF
      ∧ (alsWindowLo c0).toNat ≤ c0.toNat ∧ c0.toNat ≤ (alsWindowHi c0).toNat

/-! ## Median filter -/

/-- R76: `Median3` is one of its three values, with two of them at or below it and two at or above it. -/
def Obligations.MedianIsTheMiddleValue : Prop :=
  ∀ a b c : Lux,
    median3 a b c ∈ [a, b, c]
      ∧ 2 ≤ [a, b, c].countP (fun x => decide (x.toNat ≤ (median3 a b c).toNat))
      ∧ 2 ≤ [a, b, c].countP (fun x => decide ((median3 a b c).toNat ≤ x.toNat))

/-- R77 to R79: after a restart the first two pushes publish NoDataV and the third the median of the three. -/
def Obligations.ThirdPushAfterRestartPublishesTheMedian : Prop :=
  ∀ (s : State) (u v w : Lux),
    (s.medianRestart.commitLight u).luxPub = none
      ∧ ((s.medianRestart.commitLight u).commitLight v).luxPub = none
      ∧ (((s.medianRestart.commitLight u).commitLight v).commitLight w).luxPub = some (median3 w v u)
      ∧ (((s.medianRestart.commitLight u).commitLight v).commitLight w).hist = ⟨some w, some v, some u⟩

/-! ## Proximity -/

/-- R80, R81: the ambient guard is the test `5 · clear > 4 · SAT_ALS`, which is `clear > (8 · SAT_ALS) div 10`; the
comparator makes the near test first. Which cases are transitions is the model's reading (log 24). -/
def Obligations.GuardAndComparatorClassifyTheReading : Prop :=
  (∀ satAls clear : U16,
      (ambientSwamped satAls clear = true ↔ 5 * clear.toNat > 4 * satAls.toNat)
        ∧ (ambientSwamped satAls clear = true ↔ clear.toNat > 8 * satAls.toNat / 10))
    ∧ ∀ (s : State) (raw : U16), proxCompare s raw
      = if raw > s.pxArmHi then ⟨true, s.derived.satProx, s.cfg.proxLo, true⟩
        else if raw < s.pxArmLo then ⟨false, s.cfg.proxHi, 0, true⟩
        else ⟨s.pxEvent, s.pxArmHi, s.pxArmLo, false⟩

/-- R21, R128: a transition arms an ordered pair where the configured low threshold is under SAT_PROX. SET_CONFIG also
accepts an ordered configuration whose low threshold is not, and a near reading then arms a crossed pair; `prox_lo` 2000
with the smallest SAT_PROX is one, from a state that meets the invariant. -/
def Obligations.ArmedPairOrderAfterTransition : Prop :=
  (∀ (s : State) (raw : U16), thresholdsOrdered s.cfg = true → s.cfg.proxLo < s.derived.satProx →
      (raw > s.pxArmHi ∨ raw < s.pxArmLo) → (proxCompare s raw).lo < (proxCompare s raw).hi)
    ∧ (∀ (record : DeviceConfig) (s : State), record.proxLo < record.proxHi → (derive record).satProx ≤ record.proxLo →
        ∃ t, exec (.setConfig record) s = .next t ∧ t.cfg = normConfig record
          ∧ t.responses = s.responses ++ [[0x00]]
          ∧ ∀ raw, raw > t.pxArmHi → (proxCompare t raw).event = true ∧ (proxCompare t raw).hi ≤ (proxCompare t raw).lo)
    ∧ ∃ (record : DeviceConfig) (s t : State) (raw : U16), Inv s ∧ record.proxLo = 2000
        ∧ exec (.setConfig record) s = .next t ∧ t.cfg = normConfig record ∧ t.responses = s.responses ++ [[0x00]]
        ∧ raw > t.pxArmHi ∧ (proxCompare t raw).event = true ∧ (proxCompare t raw).hi < (proxCompare t raw).lo

/-- R83, R84: a mean-based low threshold under the floor is replaced by exactly F12, with F15 as high; otherwise the
offsets stand; in both cases low is under high. -/
def Obligations.CalibratedPairHasItsFloor : Prop :=
  ∀ (satProx : U16) (mean : Nat), 1024 ≤ satProx.toNat →
    (mean + 1000 < 12 * satProx.toNat / 100 →
        calLo satProx mean = 12 * satProx.toNat / 100 ∧ calHi satProx mean = 15 * satProx.toNat / 100)
      ∧ (12 * satProx.toNat / 100 ≤ mean + 1000 → calLo satProx mean = mean + 1000 ∧ calHi satProx mean = mean + 1500)
      ∧ calLo satProx mean < calHi satProx mean

/-- R83: a calibration whose transactions all succeed and whose high threshold fits 16 bits writes the configured pair,
the armed pair and the maximum, and nothing else. -/
def Obligations.CalibrateProxStoresTheCalibratedPair : Prop :=
  ∀ s : State, s.proxEn = true → (∀ k < 22, (s.answerAt k).ok = true) →
    calHi s.derived.satProx (calMean s) ≤ 0xFFFF →
      exec .calibrateProx s
        = .next
            { s.afterTransactions (calEntries s) with
              cfg :=
                { s.cfg with
                  proxHi := BitVec.ofNat 16 (calHi s.derived.satProx (calMean s))
                  proxLo := BitVec.ofNat 16 (calLo s.derived.satProx (calMean s)) }
              pxArmHi := BitVec.ofNat 16 (calHi s.derived.satProx (calMean s))
              pxArmLo := BitVec.ofNat 16 (calLo s.derived.satProx (calMean s))
              pxCalMax := BitVec.ofNat 16 ((calSampleList s).foldl max 0)
              hostCmd := none
              responses := s.responses ++ [[0x00]] }

/-- R83: where CALIBRATE_PROX does not succeed: InvalidState before any transaction; TransportError at the first `Err`
of the reads and, where the high threshold fits, of the writes; OutOfRange after the reads. No register is written. -/
def Obligations.CalibrateProxErrorsWriteNoRegister : Prop :=
  ∀ s : State,
    (s.proxEn = false →
        exec .calibrateProx s = .next { s with hostCmd := none, responses := s.responses ++ [[0x03]] })
      ∧ (s.proxEn = true → ∀ k < 22, (∀ j < k, (s.answerAt j).ok = true) → (s.answerAt k).ok = false →
          (k < 20 ∨ calHi s.derived.satProx (calMean s) ≤ 0xFFFF) →
            exec .calibrateProx s
              = .next { s.afterTransactions ((calEntries s).take (k + 1)) with
                  hostCmd := none, responses := s.responses ++ [[0x01]] })
      ∧ (s.proxEn = true → (∀ k < 20, (s.answerAt k).ok = true) → 0xFFFF < calHi s.derived.satProx (calMean s) →
          exec .calibrateProx s
            = .next { s.afterTransactions ((calEntries s).take 20) with
                hostCmd := none, responses := s.responses ++ [[0x04]] })

/-! ## Trigger front end, queue and passes -/

/-- R86: IRQ reads the status byte once in byte mode; it routes the two interrupt bits, or logs the failed read; nothing
else changes and the front end is Idle. -/
def Obligations.IrqRoutesTheStatusByte : Prop :=
  ∀ s : State,
    exec .irq s
      = .next
          { s.afterTransactions
              [⟨.triggerFrontEnd, byteModeCommand s.params.regStatus, 1,
                if (s.answerAt 0).ok then [(s.answerAt 0).data.extractLsb' 0 8] else [], (s.answerAt 0).ok⟩] with
            alsPending := s.alsPending || ((s.answerAt 0).ok && (s.answerAt 0).data.getLsbD s.params.aintBit.val
              && !(s.answerAt 0).data.getLsbD s.params.pintBit.val)
            proxPending := s.proxPending || ((s.answerAt 0).ok && (s.answerAt 0).data.getLsbD s.params.pintBit.val)
            dispLastStatus := if (s.answerAt 0).ok then 0x00 else 0x01
            dispState := .idle }

/-- R87, R88: the trigger commands, opcodes 0x0C and 0x0D, set their pending flag and respond OK. -/
def Obligations.TriggersSetTheirPendingFlag : Prop :=
  decodeHost [0x0C] = .ok .triggerAls ∧ decodeHost [0x0D] = .ok .triggerProx ∧ ∀ s : State,
    exec .triggerAls s
        = .next { s with alsPending := true, hostCmd := none, responses := s.responses ++ [[0x00]] }
      ∧ exec .triggerProx s
        = .next { s with proxPending := true, hostCmd := none, responses := s.responses ++ [[0x00]] }

/-- R85, R89, R90: a dequeue takes the queued pass in flight, where one is queued and none is in flight; where a dequeue or
an execution is not enabled it has no step, and its meaning refuses by name (log 6). -/
def Obligations.DequeueTakesTheQueuedPassWhereEnabled : Prop :=
  ∀ s : State,
    (s.alsPending = true → s.alsBusy = false → exec .alsDeq s = .next { s with alsPending := false, alsBusy := true })
      ∧ (s.proxPending = true → s.proxBusy = false →
          exec .proxDeq s = .next { s with proxPending := false, proxBusy := true })
      ∧ (s.alsPending = false ∨ s.alsBusy = true → exec .alsDeq s = .refused .notEnabled)
      ∧ (s.alsBusy = false → exec .alsExec s = .refused .notEnabled)
      ∧ (s.proxPending = false ∨ s.proxBusy = true → exec .proxDeq s = .refused .notEnabled)
      ∧ (s.proxBusy = false → exec .proxExec s = .refused .notEnabled)

/-- R94: a pass execution while its mode is disabled issues no transaction and writes only its busy flag. -/
def Obligations.DisabledModePassIsNoop : Prop :=
  ∀ s : State,
    (s.alsBusy = true → s.alsEn = false → exec .alsExec s = .next { s with alsBusy := false })
      ∧ (s.proxBusy = true → s.proxEn = false → exec .proxExec s = .next { s with proxBusy := false })

/-- R91: a light pass whose four transactions succeed and whose LuxEval gives a value: the four transactions, the push,
the published filter output, the busy flag and the status; nothing else. -/
def Obligations.LightPassPublishesTheFilteredLux : Prop :=
  ∀ (s : State) (v : Nat), s.alsBusy = true → s.alsEn = true → (∀ k < 4, (s.answerAt k).ok = true) →
    luxEval s.cfg s.derived ((s.answerAt 0).data.extractLsb' 0 16) ((s.answerAt 0).data.extractLsb' 16 16) = .ok v →
      exec .alsExec s
        = .next
            { s.afterTransactions (lightEntries s) with
              hist := ⟨some (BitVec.ofNat 32 v), s.hist.newest, s.hist.middle⟩
              luxPub := medianOutput ⟨some (BitVec.ofNat 32 v), s.hist.newest, s.hist.middle⟩
              alsBusy := false
              alsLastStatus := 0x00 }

/-- R91, R107: a light pass stops at its first `Err` with TransportError, and with OutOfRange after its four transactions
where LuxEval raises; only the busy flag and the status are written. -/
def Obligations.LightPassStopsAtItsFirstError : Prop :=
  ∀ s : State, s.alsBusy = true → s.alsEn = true →
    (∀ k < 4, (∀ j < k, (s.answerAt j).ok = true) → (s.answerAt k).ok = false →
        exec .alsExec s
          = .next { s.afterTransactions ((lightEntries s).take (k + 1)) with alsBusy := false, alsLastStatus := 0x01 })
      ∧ ((∀ k < 4, (s.answerAt k).ok = true) → 3 < s.cfg.gain.toNat →
          exec .alsExec s
            = .next { s.afterTransactions (lightEntries s) with alsBusy := false, alsLastStatus := 0x04 })

/-- R92: a proximity pass whose ambient guard does not fire and whose four transactions succeed: the four transactions,
the comparator's result and the readings published, the busy flag and the status; nothing else. -/
def Obligations.ProxPassPublishesTheComparison : Prop :=
  ∀ s : State, s.proxBusy = true → s.proxEn = true → (∀ k < 4, (s.answerAt k).ok = true) →
    ambientSwamped s.derived.satAls ((s.answerAt 0).data.extractLsb' 0 16) = false →
      exec .proxExec s
        = .next
            { s.afterTransactions (proxEntries s) with
              pxArmHi := (proxCompare s ((s.answerAt 0).data.extractLsb' 32 16)).hi
              pxArmLo := (proxCompare s ((s.answerAt 0).data.extractLsb' 32 16)).lo
              pxEvent := (proxCompare s ((s.answerAt 0).data.extractLsb' 32 16)).event
              pxInfoClear := (s.answerAt 0).data.extractLsb' 0 16
              pxInfoRaw := (s.answerAt 0).data.extractLsb' 32 16
              proxBusy := false
              proxLastStatus := 0x00 }

/-- R92, R107: a proximity pass stops at its first `Err` with TransportError, and after its read alone with NoData where
the ambient guard fires; only the busy flag and the status are written. -/
def Obligations.ProxPassStopsAtItsFirstError : Prop :=
  ∀ s : State, s.proxBusy = true → s.proxEn = true →
    ((s.answerAt 0).ok = false →
        exec .proxExec s
          = .next { s.afterTransactions ((proxEntries s).take 1) with proxBusy := false, proxLastStatus := 0x01 })
      ∧ ((s.answerAt 0).ok = true → ambientSwamped s.derived.satAls ((s.answerAt 0).data.extractLsb' 0 16) = true →
          exec .proxExec s
            = .next { s.afterTransactions ((proxEntries s).take 1) with proxBusy := false, proxLastStatus := 0x02 })
      ∧ (ambientSwamped s.derived.satAls ((s.answerAt 0).data.extractLsb' 0 16) = false →
          ∀ k, 1 ≤ k → k < 4 → (∀ j < k, (s.answerAt j).ok = true) → (s.answerAt k).ok = false →
            exec .proxExec s
              = .next { s.afterTransactions ((proxEntries s).take (k + 1)) with
                  proxBusy := false, proxLastStatus := 0x01 })

/-- R95: after any aborted pass the published results equal their values before it; only the pass's busy flag and its
status register change, and the sensor keeps the transactions issued: those up to the first `Err`, the read alone where the
ambient guard fires, all four where LuxEval raises. -/
def Obligations.ResultsSurviveAbortedPasses : Prop :=
  ∀ s : State,
    (s.alsBusy = true → s.alsEn = true → ∃ t, exec .alsExec s = .next t
        ∧ (t.alsLastStatus = 0x00
          ∨ (∃ k < 4, (∀ j < k, (s.answerAt j).ok = true) ∧ (s.answerAt k).ok = false
            ∧ t = { s.afterTransactions ((lightEntries s).take (k + 1)) with alsBusy := false, alsLastStatus := 0x01 })
          ∨ ((∀ k < 4, (s.answerAt k).ok = true)
            ∧ t = { s.afterTransactions (lightEntries s) with alsBusy := false, alsLastStatus := 0x04 })))
      ∧ (s.proxBusy = true → s.proxEn = true → ∃ t, exec .proxExec s = .next t
        ∧ (t.proxLastStatus = 0x00
          ∨ (∃ k < 4, (∀ j < k, (s.answerAt j).ok = true) ∧ (s.answerAt k).ok = false
            ∧ t = { s.afterTransactions ((proxEntries s).take (k + 1)) with proxBusy := false, proxLastStatus := 0x01 })
          ∨ ((s.answerAt 0).ok = true
            ∧ ambientSwamped s.derived.satAls ((s.answerAt 0).data.extractLsb' 0 16) = true
            ∧ t = { s.afterTransactions ((proxEntries s).take 1) with proxBusy := false, proxLastStatus := 0x02 })))

/-- R91, R93: the light pass reads no proximity register and writes none; nor does the proximity pass write a light one. -/
def Obligations.PassesDoNotInterfere : Prop :=
  (∀ s s' : State, s.blankProx = s'.blankProx → agreeThrough State.blankProx (exec .alsExec s) (exec .alsExec s'))
    ∧ (∀ s t : State, exec .alsExec s = .next t → sameProx s t)
    ∧ (∀ s t : State, exec .proxExec s = .next t → sameLight s t)

/-- R93: any operations other than its own dequeue, and a reset, leave a queued pass queued, however many requests come,
and take no second pass in flight; one that is in flight stays so until it executes. So exactly one pass is pending. -/
def Obligations.RequestsCoalesce : Prop :=
  ∀ (ps : List Pick) (s : State),
    (s.alsPending = true → (∀ p ∈ ps, p ≠ .alsDeq ∧ p ≠ .reset) →
        ∃ t, runPicks ps s = .next t ∧ t.alsPending = true
          ∧ t.alsBusy = (s.alsBusy && !ps.contains .alsExec))
      ∧ (s.proxPending = true → (∀ p ∈ ps, p ≠ .proxDeq ∧ p ≠ .reset) →
        ∃ t, runPicks ps s = .next t ∧ t.proxPending = true
          ∧ t.proxBusy = (s.proxBusy && !ps.contains .proxExec))

/-- R85: in every weakly fair run, a queued light pass is discarded by a reset event, or is dequeued and then executed;
the same of a queued proximity pass. -/
def Obligations.FairRunsExecuteEveryQueuedPass : Prop :=
  ∀ (states : Nat → State) (picks : Nat → Pick), isRun states picks → weaklyFair states picks → ∀ n,
    ((states n).alsPending = true →
        (∃ m, n ≤ m ∧ picks m = .reset)
          ∨ ∃ m k, n ≤ m ∧ m < k ∧ picks m = .alsDeq ∧ alsDeqEnabled (states m) = true
            ∧ picks k = .alsExec ∧ alsExecEnabled (states k) = true)
      ∧ ((states n).proxPending = true →
        (∃ m, n ≤ m ∧ picks m = .reset)
          ∨ ∃ m k, n ≤ m ∧ m < k ∧ picks m = .proxDeq ∧ proxDeqEnabled (states m) = true
            ∧ picks k = .proxExec ∧ proxExecEnabled (states k) = true)

/-- R126: in a quiescent state none of the block's own operations, nor a host's turn, changes anything; from every state
with no command outstanding six turns of the units reach one; in every run each input enables at most one dequeue and one
execution per pipeline; and in every weakly fair run with finitely many inputs the units are idle from some point on, the
state quiescent where commands issued are run. That they are is the model's reading of R43 (log 25). -/
def Obligations.UnitsReachQuiescence : Prop :=
  (∀ s : State, s.portReq = none → quiescent s = true →
      s.nextPick ∈ [Pick.host, .alsDeq, .alsExec, .proxDeq, .proxExec] → step s = .next s.afterPick)
    ∧ (∀ s : State, s.hostCmd = none →
        ∃ t, runEndsIn [.alsExec, .alsDeq, .alsExec, .proxExec, .proxDeq, .proxExec] s t)
    ∧ ∀ (states : Nat → State) (picks : Nat → Pick), isRun states picks →
      (∀ n,
          takenBefore .alsDeq states picks n
              ≤ inputsBefore picks n + (states 0).alsPending.toNat + (states 0).hostCmd.isSome.toNat
            ∧ takenBefore .alsExec states picks n ≤ takenBefore .alsDeq states picks n + (states 0).alsBusy.toNat
            ∧ takenBefore .proxDeq states picks n
              ≤ inputsBefore picks n + (states 0).proxPending.toNat + (states 0).hostCmd.isSome.toNat
            ∧ takenBefore .proxExec states picks n ≤ takenBefore .proxDeq states picks n + (states 0).proxBusy.toNat)
        ∧ (weaklyFair states picks → finitelyManyInputs picks →
          (∃ n, ∀ m, n ≤ m → unitsIdle (states m) = true)
            ∧ (commandsExecuted states picks → ∃ n, ∀ m, n ≤ m → quiescent (states m) = true))

/-! ## Control commands -/

/-- R97: LIGHT_ON, opcode 0x01, restarts the history on the disabled to enabled transition, and is a noop otherwise. -/
def Obligations.LightOnRestartsOnTheTransition : Prop :=
  decodeHost [0x01] = .ok .lightOn ∧ ∀ s : State,
    exec .lightOn s
      = .next
          (if s.alsEn = true then { s with hostCmd := none, responses := s.responses ++ [[0x00]] }
          else
            { s with
              alsEn := true
              hist := ⟨none, none, none⟩
              luxPub := none
              hostCmd := none
              responses := s.responses ++ [[0x00]] })

/-- R98, R102: LIGHT_OFF and PROX_OFF, opcodes 0x02 and 0x06, clear their mode bit and nothing else. -/
def Obligations.OffCommandsClearTheirModeBit : Prop :=
  decodeHost [0x02] = .ok .lightOff ∧ decodeHost [0x06] = .ok .proxOff ∧ ∀ s : State,
    exec .lightOff s = .next { s with alsEn := false, hostCmd := none, responses := s.responses ++ [[0x00]] }
      ∧ exec .proxOff s = .next { s with proxEn := false, hostCmd := none, responses := s.responses ++ [[0x00]] }

/-- R46, R99: READ_LIGHT, opcode 0x03, returns the published lux in four bytes, least significant first, or NoData. -/
def Obligations.ReadLightReturnsThePublishedLux : Prop :=
  decodeHost [0x03] = .ok .readLight ∧ ∀ s : State,
    (s.luxPub = none →
        exec .readLight s = .next { s with hostCmd := none, responses := s.responses ++ [[0x02]] })
      ∧ ∀ v, s.luxPub = some v →
        exec .readLight s
          = .next { s with
              hostCmd := none
              responses := s.responses
                ++ [[0x00, v.extractLsb' 0 8, v.extractLsb' 8 8, v.extractLsb' 16 8, v.extractLsb' 24 8]] }

/-- R100: CALIBRATE_LIGHT, opcode 0x04, checks the mode, the published value, zero and the quotient in this order, and
writes the gain trim alone. -/
def Obligations.CalibrateLightSetsTheGainTrim : Prop :=
  decodeHost [0x04] = .ok .calibrateLight ∧ ∀ s : State,
    (s.alsEn = false →
        exec .calibrateLight s = .next { s with hostCmd := none, responses := s.responses ++ [[0x03]] })
      ∧ (s.alsEn = true → s.luxPub = none →
        exec .calibrateLight s = .next { s with hostCmd := none, responses := s.responses ++ [[0x02]] })
      ∧ ∀ lux, s.alsEn = true → s.luxPub = some lux →
        exec .calibrateLight s
          = .next
              (if lux.toNat = 0 ∨ 0xFFFF < s.cfg.calTarget.toNat * 512 / lux.toNat then
                { s with hostCmd := none, responses := s.responses ++ [[0x04]] }
              else
                { s with
                  cfg := { s.cfg with gainTrim := BitVec.ofNat 16 (s.cfg.calTarget.toNat * 512 / lux.toNat) }
                  hostCmd := none
                  responses := s.responses ++ [[0x00]] })

/-- R101: PROX_ON, opcode 0x05, arms the configured pair on the disabled to enabled transition, and is a noop
otherwise. -/
def Obligations.ProxOnArmsTheConfiguredPair : Prop :=
  decodeHost [0x05] = .ok .proxOn ∧ ∀ s : State,
    exec .proxOn s
      = .next
          (if s.proxEn = true then { s with hostCmd := none, responses := s.responses ++ [[0x00]] }
          else
            { s with
              proxEn := true
              pxArmHi := s.cfg.proxHi
              pxArmLo := s.cfg.proxLo
              pxEvent := false
              pxInfoClear := 0
              pxInfoRaw := 0
              hostCmd := none
              responses := s.responses ++ [[0x00]] })

/-- R47, R48, R103, R104: READ_PROX_INFO, opcode 0x07, returns the readings and the event in five bytes, READ_PROX_EVENT,
opcode 0x08, the event in four; both change nothing. -/
def Obligations.ProxReadsReturnTheInfoAndTheEvent : Prop :=
  decodeHost [0x07] = .ok .readProxInfo ∧ decodeHost [0x08] = .ok .readProxEvent ∧ ∀ s : State,
    exec .readProxInfo s
        = .next { s with
            hostCmd := none
            responses := s.responses
              ++ [[0x00, s.pxInfoClear.extractLsb' 0 8, s.pxInfoClear.extractLsb' 8 8, s.pxInfoRaw.extractLsb' 0 8,
                s.pxInfoRaw.extractLsb' 8 8, if s.pxEvent then 0x01 else 0x00]] }
      ∧ exec .readProxEvent s
        = .next { s with
            hostCmd := none
            responses := s.responses ++ [[0x00, if s.pxEvent then 0x01 else 0x00, 0x00, 0x00, 0x00]] }

/-- R43, R106: every host command completes with one response, frees the host port, answers a status code of 0 to 4, and
a payload only with OK. -/
def Obligations.HostCommandsReturnOneResponse : Prop :=
  ∀ (i : Instr) (s : State) (bytes : List Byte), encode i = some (.host bytes) →
    ∃ t code payload, exec i s = .next t ∧ t.responses = s.responses ++ [code :: payload] ∧ t.hostCmd = none
      ∧ code.toNat ≤ 4 ∧ (code ≠ 0x00 → payload = [])

/-! ## Sensor rows -/

/-- R53, R55 (the model's choice of running them by themselves, log 8): SENSOR_BYTE and the three special functions issue
their transaction, and nothing else changes. -/
def Obligations.SensorCommandsIssueTheirTransaction : Prop :=
  ∀ (addr : SensorAddr) (s : State),
    exec (.sensorByte addr) s
        = .next (s.afterTransactions
            [⟨.bare, 0x80 ||| addr.setWidth 8, 1,
              if (s.answerAt 0).ok then [(s.answerAt 0).data.extractLsb' 0 8] else [], (s.answerAt 0).ok⟩])
      ∧ exec .sfProxClr s = .next (s.afterTransactions [⟨.bare, 0xE5, 0, [], (s.answerAt 0).ok⟩])
      ∧ exec .sfAlsClr s = .next (s.afterTransactions [⟨.bare, 0xE6, 0, [], (s.answerAt 0).ok⟩])
      ∧ exec .sfBothClr s = .next (s.afterTransactions [⟨.bare, 0xE7, 0, [], (s.answerAt 0).ok⟩])

/-- R38, R54 (log 8, log 10): SENSOR_AUTO issues its read or its word write, low byte first, where it stays within
0x00..0x1F, and faults where it would run past. -/
def Obligations.SensorAutoIssuesItsTransfer : Prop :=
  ∀ (addr : SensorAddr) (xfer : Xfer) (s : State),
    exec (.sensorAuto addr xfer) s
      = if addr.toNat + xfer.count ≤ 32 then
          .next (s.afterTransactions
            [⟨.bare, 0xA0 ||| addr.setWidth 8, xfer.count,
              match xfer with
              | .write v => [v.extractLsb' 0 8, v.extractLsb' 8 8]
              | .read4 => if (s.answerAt 0).ok then answerBytes (s.answerAt 0) 4 else []
              | .read6 => if (s.answerAt 0).ok then answerBytes (s.answerAt 0) 6 else [],
              (s.answerAt 0).ok⟩])
        else .fault .beyondSensorSpace
end

