-- ==== Sys2Proof/Laws/State.lean ====
section
/-! SUPPORT. One lemma per field of State and per named update, each true by rfl, so that no proof unfolds a record
update. -/

namespace Sys2Proof.Machine

/-! ## State.afterAnswers -/

@[simp] theorem State.afterAnswers_cfg (s : State) (k : Nat) : (s.afterAnswers k).cfg = s.cfg := rfl
@[simp] theorem State.afterAnswers_derived (s : State) (k : Nat) : (s.afterAnswers k).derived = s.derived := rfl
@[simp] theorem State.afterAnswers_alsEn (s : State) (k : Nat) : (s.afterAnswers k).alsEn = s.alsEn := rfl
@[simp] theorem State.afterAnswers_proxEn (s : State) (k : Nat) : (s.afterAnswers k).proxEn = s.proxEn := rfl
@[simp] theorem State.afterAnswers_hist (s : State) (k : Nat) : (s.afterAnswers k).hist = s.hist := rfl
@[simp] theorem State.afterAnswers_luxPub (s : State) (k : Nat) : (s.afterAnswers k).luxPub = s.luxPub := rfl
@[simp] theorem State.afterAnswers_pxInfoClear (s : State) (k : Nat) : (s.afterAnswers k).pxInfoClear = s.pxInfoClear := rfl
@[simp] theorem State.afterAnswers_pxInfoRaw (s : State) (k : Nat) : (s.afterAnswers k).pxInfoRaw = s.pxInfoRaw := rfl
@[simp] theorem State.afterAnswers_pxEvent (s : State) (k : Nat) : (s.afterAnswers k).pxEvent = s.pxEvent := rfl
@[simp] theorem State.afterAnswers_pxArmHi (s : State) (k : Nat) : (s.afterAnswers k).pxArmHi = s.pxArmHi := rfl
@[simp] theorem State.afterAnswers_pxArmLo (s : State) (k : Nat) : (s.afterAnswers k).pxArmLo = s.pxArmLo := rfl
@[simp] theorem State.afterAnswers_pxCalMax (s : State) (k : Nat) : (s.afterAnswers k).pxCalMax = s.pxCalMax := rfl
@[simp] theorem State.afterAnswers_alsLastStatus (s : State) (k : Nat) : (s.afterAnswers k).alsLastStatus = s.alsLastStatus := rfl
@[simp] theorem State.afterAnswers_proxLastStatus (s : State) (k : Nat) : (s.afterAnswers k).proxLastStatus = s.proxLastStatus := rfl
@[simp] theorem State.afterAnswers_dispLastStatus (s : State) (k : Nat) : (s.afterAnswers k).dispLastStatus = s.dispLastStatus := rfl
@[simp] theorem State.afterAnswers_alsPending (s : State) (k : Nat) : (s.afterAnswers k).alsPending = s.alsPending := rfl
@[simp] theorem State.afterAnswers_alsBusy (s : State) (k : Nat) : (s.afterAnswers k).alsBusy = s.alsBusy := rfl
@[simp] theorem State.afterAnswers_proxPending (s : State) (k : Nat) : (s.afterAnswers k).proxPending = s.proxPending := rfl
@[simp] theorem State.afterAnswers_proxBusy (s : State) (k : Nat) : (s.afterAnswers k).proxBusy = s.proxBusy := rfl
@[simp] theorem State.afterAnswers_dispState (s : State) (k : Nat) : (s.afterAnswers k).dispState = s.dispState := rfl
@[simp] theorem State.afterAnswers_hostCmd (s : State) (k : Nat) : (s.afterAnswers k).hostCmd = s.hostCmd := rfl
@[simp] theorem State.afterAnswers_responses (s : State) (k : Nat) : (s.afterAnswers k).responses = s.responses := rfl
@[simp] theorem State.afterAnswers_history (s : State) (k : Nat) : (s.afterAnswers k).history = s.history := rfl
@[simp] theorem State.afterAnswers_params (s : State) (k : Nat) : (s.afterAnswers k).params = s.params := rfl
@[simp] theorem State.afterAnswers_answers (s : State) (k : Nat) : (s.afterAnswers k).answers = s.answers.drop k := rfl
@[simp] theorem State.afterAnswers_schedule (s : State) (k : Nat) : (s.afterAnswers k).schedule = s.schedule := rfl
@[simp] theorem State.afterAnswers_freeCount (s : State) (k : Nat) : (s.afterAnswers k).freeCount = s.freeCount + (k - s.answers.length) := rfl
@[simp] theorem State.afterAnswers_portReq (s : State) (k : Nat) : (s.afterAnswers k).portReq = s.portReq := rfl

/-! ## State.record -/

@[simp] theorem State.record_cfg (s : State) (e : PortEvent) : (s.record e).cfg = s.cfg := rfl
@[simp] theorem State.record_derived (s : State) (e : PortEvent) : (s.record e).derived = s.derived := rfl
@[simp] theorem State.record_alsEn (s : State) (e : PortEvent) : (s.record e).alsEn = s.alsEn := rfl
@[simp] theorem State.record_proxEn (s : State) (e : PortEvent) : (s.record e).proxEn = s.proxEn := rfl
@[simp] theorem State.record_hist (s : State) (e : PortEvent) : (s.record e).hist = s.hist := rfl
@[simp] theorem State.record_luxPub (s : State) (e : PortEvent) : (s.record e).luxPub = s.luxPub := rfl
@[simp] theorem State.record_pxInfoClear (s : State) (e : PortEvent) : (s.record e).pxInfoClear = s.pxInfoClear := rfl
@[simp] theorem State.record_pxInfoRaw (s : State) (e : PortEvent) : (s.record e).pxInfoRaw = s.pxInfoRaw := rfl
@[simp] theorem State.record_pxEvent (s : State) (e : PortEvent) : (s.record e).pxEvent = s.pxEvent := rfl
@[simp] theorem State.record_pxArmHi (s : State) (e : PortEvent) : (s.record e).pxArmHi = s.pxArmHi := rfl
@[simp] theorem State.record_pxArmLo (s : State) (e : PortEvent) : (s.record e).pxArmLo = s.pxArmLo := rfl
@[simp] theorem State.record_pxCalMax (s : State) (e : PortEvent) : (s.record e).pxCalMax = s.pxCalMax := rfl
@[simp] theorem State.record_alsLastStatus (s : State) (e : PortEvent) : (s.record e).alsLastStatus = s.alsLastStatus := rfl
@[simp] theorem State.record_proxLastStatus (s : State) (e : PortEvent) : (s.record e).proxLastStatus = s.proxLastStatus := rfl
@[simp] theorem State.record_dispLastStatus (s : State) (e : PortEvent) : (s.record e).dispLastStatus = s.dispLastStatus := rfl
@[simp] theorem State.record_alsPending (s : State) (e : PortEvent) : (s.record e).alsPending = s.alsPending := rfl
@[simp] theorem State.record_alsBusy (s : State) (e : PortEvent) : (s.record e).alsBusy = s.alsBusy := rfl
@[simp] theorem State.record_proxPending (s : State) (e : PortEvent) : (s.record e).proxPending = s.proxPending := rfl
@[simp] theorem State.record_proxBusy (s : State) (e : PortEvent) : (s.record e).proxBusy = s.proxBusy := rfl
@[simp] theorem State.record_dispState (s : State) (e : PortEvent) : (s.record e).dispState = s.dispState := rfl
@[simp] theorem State.record_hostCmd (s : State) (e : PortEvent) : (s.record e).hostCmd = s.hostCmd := rfl
@[simp] theorem State.record_responses (s : State) (e : PortEvent) : (s.record e).responses = s.responses := rfl
@[simp] theorem State.record_history (s : State) (e : PortEvent) : (s.record e).history = s.history ++ [e] := rfl
@[simp] theorem State.record_params (s : State) (e : PortEvent) : (s.record e).params = s.params := rfl
@[simp] theorem State.record_answers (s : State) (e : PortEvent) : (s.record e).answers = s.answers.drop 1 := rfl
@[simp] theorem State.record_schedule (s : State) (e : PortEvent) : (s.record e).schedule = s.schedule := rfl
@[simp] theorem State.record_freeCount (s : State) (e : PortEvent) : (s.record e).freeCount = s.freeCount + (1 - s.answers.length) := rfl
@[simp] theorem State.record_portReq (s : State) (e : PortEvent) : (s.record e).portReq = s.portReq := rfl

/-! ## State.respond -/

@[simp] theorem State.respond_cfg (s : State) (c : Byte) (p : List Byte) : (s.respond c p).cfg = s.cfg := rfl
@[simp] theorem State.respond_derived (s : State) (c : Byte) (p : List Byte) : (s.respond c p).derived = s.derived := rfl
@[simp] theorem State.respond_alsEn (s : State) (c : Byte) (p : List Byte) : (s.respond c p).alsEn = s.alsEn := rfl
@[simp] theorem State.respond_proxEn (s : State) (c : Byte) (p : List Byte) : (s.respond c p).proxEn = s.proxEn := rfl
@[simp] theorem State.respond_hist (s : State) (c : Byte) (p : List Byte) : (s.respond c p).hist = s.hist := rfl
@[simp] theorem State.respond_luxPub (s : State) (c : Byte) (p : List Byte) : (s.respond c p).luxPub = s.luxPub := rfl
@[simp] theorem State.respond_pxInfoClear (s : State) (c : Byte) (p : List Byte) : (s.respond c p).pxInfoClear = s.pxInfoClear := rfl
@[simp] theorem State.respond_pxInfoRaw (s : State) (c : Byte) (p : List Byte) : (s.respond c p).pxInfoRaw = s.pxInfoRaw := rfl
@[simp] theorem State.respond_pxEvent (s : State) (c : Byte) (p : List Byte) : (s.respond c p).pxEvent = s.pxEvent := rfl
@[simp] theorem State.respond_pxArmHi (s : State) (c : Byte) (p : List Byte) : (s.respond c p).pxArmHi = s.pxArmHi := rfl
@[simp] theorem State.respond_pxArmLo (s : State) (c : Byte) (p : List Byte) : (s.respond c p).pxArmLo = s.pxArmLo := rfl
@[simp] theorem State.respond_pxCalMax (s : State) (c : Byte) (p : List Byte) : (s.respond c p).pxCalMax = s.pxCalMax := rfl
@[simp] theorem State.respond_alsLastStatus (s : State) (c : Byte) (p : List Byte) : (s.respond c p).alsLastStatus = s.alsLastStatus := rfl
@[simp] theorem State.respond_proxLastStatus (s : State) (c : Byte) (p : List Byte) : (s.respond c p).proxLastStatus = s.proxLastStatus := rfl
@[simp] theorem State.respond_dispLastStatus (s : State) (c : Byte) (p : List Byte) : (s.respond c p).dispLastStatus = s.dispLastStatus := rfl
@[simp] theorem State.respond_alsPending (s : State) (c : Byte) (p : List Byte) : (s.respond c p).alsPending = s.alsPending := rfl
@[simp] theorem State.respond_alsBusy (s : State) (c : Byte) (p : List Byte) : (s.respond c p).alsBusy = s.alsBusy := rfl
@[simp] theorem State.respond_proxPending (s : State) (c : Byte) (p : List Byte) : (s.respond c p).proxPending = s.proxPending := rfl
@[simp] theorem State.respond_proxBusy (s : State) (c : Byte) (p : List Byte) : (s.respond c p).proxBusy = s.proxBusy := rfl
@[simp] theorem State.respond_dispState (s : State) (c : Byte) (p : List Byte) : (s.respond c p).dispState = s.dispState := rfl
@[simp] theorem State.respond_hostCmd (s : State) (c : Byte) (p : List Byte) : (s.respond c p).hostCmd = none := rfl
@[simp] theorem State.respond_responses (s : State) (c : Byte) (p : List Byte) : (s.respond c p).responses = s.responses ++ [c :: p] := rfl
@[simp] theorem State.respond_history (s : State) (c : Byte) (p : List Byte) : (s.respond c p).history = s.history := rfl
@[simp] theorem State.respond_params (s : State) (c : Byte) (p : List Byte) : (s.respond c p).params = s.params := rfl
@[simp] theorem State.respond_answers (s : State) (c : Byte) (p : List Byte) : (s.respond c p).answers = s.answers := rfl
@[simp] theorem State.respond_schedule (s : State) (c : Byte) (p : List Byte) : (s.respond c p).schedule = s.schedule := rfl
@[simp] theorem State.respond_freeCount (s : State) (c : Byte) (p : List Byte) : (s.respond c p).freeCount = s.freeCount := rfl
@[simp] theorem State.respond_portReq (s : State) (c : Byte) (p : List Byte) : (s.respond c p).portReq = s.portReq := rfl

/-! ## State.afterPick -/

@[simp] theorem State.afterPick_cfg (s : State) : (s.afterPick).cfg = s.cfg := rfl
@[simp] theorem State.afterPick_derived (s : State) : (s.afterPick).derived = s.derived := rfl
@[simp] theorem State.afterPick_alsEn (s : State) : (s.afterPick).alsEn = s.alsEn := rfl
@[simp] theorem State.afterPick_proxEn (s : State) : (s.afterPick).proxEn = s.proxEn := rfl
@[simp] theorem State.afterPick_hist (s : State) : (s.afterPick).hist = s.hist := rfl
@[simp] theorem State.afterPick_luxPub (s : State) : (s.afterPick).luxPub = s.luxPub := rfl
@[simp] theorem State.afterPick_pxInfoClear (s : State) : (s.afterPick).pxInfoClear = s.pxInfoClear := rfl
@[simp] theorem State.afterPick_pxInfoRaw (s : State) : (s.afterPick).pxInfoRaw = s.pxInfoRaw := rfl
@[simp] theorem State.afterPick_pxEvent (s : State) : (s.afterPick).pxEvent = s.pxEvent := rfl
@[simp] theorem State.afterPick_pxArmHi (s : State) : (s.afterPick).pxArmHi = s.pxArmHi := rfl
@[simp] theorem State.afterPick_pxArmLo (s : State) : (s.afterPick).pxArmLo = s.pxArmLo := rfl
@[simp] theorem State.afterPick_pxCalMax (s : State) : (s.afterPick).pxCalMax = s.pxCalMax := rfl
@[simp] theorem State.afterPick_alsLastStatus (s : State) : (s.afterPick).alsLastStatus = s.alsLastStatus := rfl
@[simp] theorem State.afterPick_proxLastStatus (s : State) : (s.afterPick).proxLastStatus = s.proxLastStatus := rfl
@[simp] theorem State.afterPick_dispLastStatus (s : State) : (s.afterPick).dispLastStatus = s.dispLastStatus := rfl
@[simp] theorem State.afterPick_alsPending (s : State) : (s.afterPick).alsPending = s.alsPending := rfl
@[simp] theorem State.afterPick_alsBusy (s : State) : (s.afterPick).alsBusy = s.alsBusy := rfl
@[simp] theorem State.afterPick_proxPending (s : State) : (s.afterPick).proxPending = s.proxPending := rfl
@[simp] theorem State.afterPick_proxBusy (s : State) : (s.afterPick).proxBusy = s.proxBusy := rfl
@[simp] theorem State.afterPick_dispState (s : State) : (s.afterPick).dispState = s.dispState := rfl
@[simp] theorem State.afterPick_hostCmd (s : State) : (s.afterPick).hostCmd = s.hostCmd := rfl
@[simp] theorem State.afterPick_responses (s : State) : (s.afterPick).responses = s.responses := rfl
@[simp] theorem State.afterPick_history (s : State) : (s.afterPick).history = s.history := rfl
@[simp] theorem State.afterPick_params (s : State) : (s.afterPick).params = s.params := rfl
@[simp] theorem State.afterPick_answers (s : State) : (s.afterPick).answers = s.answers := rfl
@[simp] theorem State.afterPick_schedule (s : State) : (s.afterPick).schedule = s.schedule.tail := rfl
@[simp] theorem State.afterPick_freeCount (s : State) : (s.afterPick).freeCount = if s.schedule.isEmpty then s.freeCount + 1 else s.freeCount := rfl
@[simp] theorem State.afterPick_portReq (s : State) : (s.afterPick).portReq = s.portReq := rfl

/-! ## State.commitConfig -/

@[simp] theorem State.commitConfig_cfg (s : State) (c : DeviceConfig) : (s.commitConfig c).cfg = c := rfl
@[simp] theorem State.commitConfig_derived (s : State) (c : DeviceConfig) : (s.commitConfig c).derived = derive c := rfl
@[simp] theorem State.commitConfig_alsEn (s : State) (c : DeviceConfig) : (s.commitConfig c).alsEn = s.alsEn := rfl
@[simp] theorem State.commitConfig_proxEn (s : State) (c : DeviceConfig) : (s.commitConfig c).proxEn = s.proxEn := rfl
@[simp] theorem State.commitConfig_hist (s : State) (c : DeviceConfig) : (s.commitConfig c).hist = s.hist := rfl
@[simp] theorem State.commitConfig_luxPub (s : State) (c : DeviceConfig) : (s.commitConfig c).luxPub = s.luxPub := rfl
@[simp] theorem State.commitConfig_pxInfoClear (s : State) (c : DeviceConfig) : (s.commitConfig c).pxInfoClear = s.pxInfoClear := rfl
@[simp] theorem State.commitConfig_pxInfoRaw (s : State) (c : DeviceConfig) : (s.commitConfig c).pxInfoRaw = s.pxInfoRaw := rfl
@[simp] theorem State.commitConfig_pxEvent (s : State) (c : DeviceConfig) : (s.commitConfig c).pxEvent = s.pxEvent := rfl
@[simp] theorem State.commitConfig_pxArmHi (s : State) (c : DeviceConfig) : (s.commitConfig c).pxArmHi = s.pxArmHi := rfl
@[simp] theorem State.commitConfig_pxArmLo (s : State) (c : DeviceConfig) : (s.commitConfig c).pxArmLo = s.pxArmLo := rfl
@[simp] theorem State.commitConfig_pxCalMax (s : State) (c : DeviceConfig) : (s.commitConfig c).pxCalMax = s.pxCalMax := rfl
@[simp] theorem State.commitConfig_alsLastStatus (s : State) (c : DeviceConfig) : (s.commitConfig c).alsLastStatus = s.alsLastStatus := rfl
@[simp] theorem State.commitConfig_proxLastStatus (s : State) (c : DeviceConfig) : (s.commitConfig c).proxLastStatus = s.proxLastStatus := rfl
@[simp] theorem State.commitConfig_dispLastStatus (s : State) (c : DeviceConfig) : (s.commitConfig c).dispLastStatus = s.dispLastStatus := rfl
@[simp] theorem State.commitConfig_alsPending (s : State) (c : DeviceConfig) : (s.commitConfig c).alsPending = s.alsPending := rfl
@[simp] theorem State.commitConfig_alsBusy (s : State) (c : DeviceConfig) : (s.commitConfig c).alsBusy = s.alsBusy := rfl
@[simp] theorem State.commitConfig_proxPending (s : State) (c : DeviceConfig) : (s.commitConfig c).proxPending = s.proxPending := rfl
@[simp] theorem State.commitConfig_proxBusy (s : State) (c : DeviceConfig) : (s.commitConfig c).proxBusy = s.proxBusy := rfl
@[simp] theorem State.commitConfig_dispState (s : State) (c : DeviceConfig) : (s.commitConfig c).dispState = s.dispState := rfl
@[simp] theorem State.commitConfig_hostCmd (s : State) (c : DeviceConfig) : (s.commitConfig c).hostCmd = s.hostCmd := rfl
@[simp] theorem State.commitConfig_responses (s : State) (c : DeviceConfig) : (s.commitConfig c).responses = s.responses := rfl
@[simp] theorem State.commitConfig_history (s : State) (c : DeviceConfig) : (s.commitConfig c).history = s.history := rfl
@[simp] theorem State.commitConfig_params (s : State) (c : DeviceConfig) : (s.commitConfig c).params = s.params := rfl
@[simp] theorem State.commitConfig_answers (s : State) (c : DeviceConfig) : (s.commitConfig c).answers = s.answers := rfl
@[simp] theorem State.commitConfig_schedule (s : State) (c : DeviceConfig) : (s.commitConfig c).schedule = s.schedule := rfl
@[simp] theorem State.commitConfig_freeCount (s : State) (c : DeviceConfig) : (s.commitConfig c).freeCount = s.freeCount := rfl
@[simp] theorem State.commitConfig_portReq (s : State) (c : DeviceConfig) : (s.commitConfig c).portReq = s.portReq := rfl

/-! ## State.commitCalibration -/

@[simp] theorem State.commitCalibration_cfg (s : State) (c : Calibration) : (s.commitCalibration c).cfg = { s.cfg with proxHi := c.hi, proxLo := c.lo } := rfl
@[simp] theorem State.commitCalibration_derived (s : State) (c : Calibration) : (s.commitCalibration c).derived = s.derived := rfl
@[simp] theorem State.commitCalibration_alsEn (s : State) (c : Calibration) : (s.commitCalibration c).alsEn = s.alsEn := rfl
@[simp] theorem State.commitCalibration_proxEn (s : State) (c : Calibration) : (s.commitCalibration c).proxEn = s.proxEn := rfl
@[simp] theorem State.commitCalibration_hist (s : State) (c : Calibration) : (s.commitCalibration c).hist = s.hist := rfl
@[simp] theorem State.commitCalibration_luxPub (s : State) (c : Calibration) : (s.commitCalibration c).luxPub = s.luxPub := rfl
@[simp] theorem State.commitCalibration_pxInfoClear (s : State) (c : Calibration) : (s.commitCalibration c).pxInfoClear = s.pxInfoClear := rfl
@[simp] theorem State.commitCalibration_pxInfoRaw (s : State) (c : Calibration) : (s.commitCalibration c).pxInfoRaw = s.pxInfoRaw := rfl
@[simp] theorem State.commitCalibration_pxEvent (s : State) (c : Calibration) : (s.commitCalibration c).pxEvent = s.pxEvent := rfl
@[simp] theorem State.commitCalibration_pxArmHi (s : State) (c : Calibration) : (s.commitCalibration c).pxArmHi = c.hi := rfl
@[simp] theorem State.commitCalibration_pxArmLo (s : State) (c : Calibration) : (s.commitCalibration c).pxArmLo = c.lo := rfl
@[simp] theorem State.commitCalibration_pxCalMax (s : State) (c : Calibration) : (s.commitCalibration c).pxCalMax = c.max := rfl
@[simp] theorem State.commitCalibration_alsLastStatus (s : State) (c : Calibration) : (s.commitCalibration c).alsLastStatus = s.alsLastStatus := rfl
@[simp] theorem State.commitCalibration_proxLastStatus (s : State) (c : Calibration) : (s.commitCalibration c).proxLastStatus = s.proxLastStatus := rfl
@[simp] theorem State.commitCalibration_dispLastStatus (s : State) (c : Calibration) : (s.commitCalibration c).dispLastStatus = s.dispLastStatus := rfl
@[simp] theorem State.commitCalibration_alsPending (s : State) (c : Calibration) : (s.commitCalibration c).alsPending = s.alsPending := rfl
@[simp] theorem State.commitCalibration_alsBusy (s : State) (c : Calibration) : (s.commitCalibration c).alsBusy = s.alsBusy := rfl
@[simp] theorem State.commitCalibration_proxPending (s : State) (c : Calibration) : (s.commitCalibration c).proxPending = s.proxPending := rfl
@[simp] theorem State.commitCalibration_proxBusy (s : State) (c : Calibration) : (s.commitCalibration c).proxBusy = s.proxBusy := rfl
@[simp] theorem State.commitCalibration_dispState (s : State) (c : Calibration) : (s.commitCalibration c).dispState = s.dispState := rfl
@[simp] theorem State.commitCalibration_hostCmd (s : State) (c : Calibration) : (s.commitCalibration c).hostCmd = s.hostCmd := rfl
@[simp] theorem State.commitCalibration_responses (s : State) (c : Calibration) : (s.commitCalibration c).responses = s.responses := rfl
@[simp] theorem State.commitCalibration_history (s : State) (c : Calibration) : (s.commitCalibration c).history = s.history := rfl
@[simp] theorem State.commitCalibration_params (s : State) (c : Calibration) : (s.commitCalibration c).params = s.params := rfl
@[simp] theorem State.commitCalibration_answers (s : State) (c : Calibration) : (s.commitCalibration c).answers = s.answers := rfl
@[simp] theorem State.commitCalibration_schedule (s : State) (c : Calibration) : (s.commitCalibration c).schedule = s.schedule := rfl
@[simp] theorem State.commitCalibration_freeCount (s : State) (c : Calibration) : (s.commitCalibration c).freeCount = s.freeCount := rfl
@[simp] theorem State.commitCalibration_portReq (s : State) (c : Calibration) : (s.commitCalibration c).portReq = s.portReq := rfl

/-! ## State.abortLight -/

@[simp] theorem State.abortLight_cfg (s : State) (e : ErrorKind) : (s.abortLight e).cfg = s.cfg := rfl
@[simp] theorem State.abortLight_derived (s : State) (e : ErrorKind) : (s.abortLight e).derived = s.derived := rfl
@[simp] theorem State.abortLight_alsEn (s : State) (e : ErrorKind) : (s.abortLight e).alsEn = s.alsEn := rfl
@[simp] theorem State.abortLight_proxEn (s : State) (e : ErrorKind) : (s.abortLight e).proxEn = s.proxEn := rfl
@[simp] theorem State.abortLight_hist (s : State) (e : ErrorKind) : (s.abortLight e).hist = s.hist := rfl
@[simp] theorem State.abortLight_luxPub (s : State) (e : ErrorKind) : (s.abortLight e).luxPub = s.luxPub := rfl
@[simp] theorem State.abortLight_pxInfoClear (s : State) (e : ErrorKind) : (s.abortLight e).pxInfoClear = s.pxInfoClear := rfl
@[simp] theorem State.abortLight_pxInfoRaw (s : State) (e : ErrorKind) : (s.abortLight e).pxInfoRaw = s.pxInfoRaw := rfl
@[simp] theorem State.abortLight_pxEvent (s : State) (e : ErrorKind) : (s.abortLight e).pxEvent = s.pxEvent := rfl
@[simp] theorem State.abortLight_pxArmHi (s : State) (e : ErrorKind) : (s.abortLight e).pxArmHi = s.pxArmHi := rfl
@[simp] theorem State.abortLight_pxArmLo (s : State) (e : ErrorKind) : (s.abortLight e).pxArmLo = s.pxArmLo := rfl
@[simp] theorem State.abortLight_pxCalMax (s : State) (e : ErrorKind) : (s.abortLight e).pxCalMax = s.pxCalMax := rfl
@[simp] theorem State.abortLight_alsLastStatus (s : State) (e : ErrorKind) : (s.abortLight e).alsLastStatus = e.code := rfl
@[simp] theorem State.abortLight_proxLastStatus (s : State) (e : ErrorKind) : (s.abortLight e).proxLastStatus = s.proxLastStatus := rfl
@[simp] theorem State.abortLight_dispLastStatus (s : State) (e : ErrorKind) : (s.abortLight e).dispLastStatus = s.dispLastStatus := rfl
@[simp] theorem State.abortLight_alsPending (s : State) (e : ErrorKind) : (s.abortLight e).alsPending = s.alsPending := rfl
@[simp] theorem State.abortLight_alsBusy (s : State) (e : ErrorKind) : (s.abortLight e).alsBusy = false := rfl
@[simp] theorem State.abortLight_proxPending (s : State) (e : ErrorKind) : (s.abortLight e).proxPending = s.proxPending := rfl
@[simp] theorem State.abortLight_proxBusy (s : State) (e : ErrorKind) : (s.abortLight e).proxBusy = s.proxBusy := rfl
@[simp] theorem State.abortLight_dispState (s : State) (e : ErrorKind) : (s.abortLight e).dispState = s.dispState := rfl
@[simp] theorem State.abortLight_hostCmd (s : State) (e : ErrorKind) : (s.abortLight e).hostCmd = s.hostCmd := rfl
@[simp] theorem State.abortLight_responses (s : State) (e : ErrorKind) : (s.abortLight e).responses = s.responses := rfl
@[simp] theorem State.abortLight_history (s : State) (e : ErrorKind) : (s.abortLight e).history = s.history := rfl
@[simp] theorem State.abortLight_params (s : State) (e : ErrorKind) : (s.abortLight e).params = s.params := rfl
@[simp] theorem State.abortLight_answers (s : State) (e : ErrorKind) : (s.abortLight e).answers = s.answers := rfl
@[simp] theorem State.abortLight_schedule (s : State) (e : ErrorKind) : (s.abortLight e).schedule = s.schedule := rfl
@[simp] theorem State.abortLight_freeCount (s : State) (e : ErrorKind) : (s.abortLight e).freeCount = s.freeCount := rfl
@[simp] theorem State.abortLight_portReq (s : State) (e : ErrorKind) : (s.abortLight e).portReq = s.portReq := rfl

/-! ## State.abortProx -/

@[simp] theorem State.abortProx_cfg (s : State) (e : ErrorKind) : (s.abortProx e).cfg = s.cfg := rfl
@[simp] theorem State.abortProx_derived (s : State) (e : ErrorKind) : (s.abortProx e).derived = s.derived := rfl
@[simp] theorem State.abortProx_alsEn (s : State) (e : ErrorKind) : (s.abortProx e).alsEn = s.alsEn := rfl
@[simp] theorem State.abortProx_proxEn (s : State) (e : ErrorKind) : (s.abortProx e).proxEn = s.proxEn := rfl
@[simp] theorem State.abortProx_hist (s : State) (e : ErrorKind) : (s.abortProx e).hist = s.hist := rfl
@[simp] theorem State.abortProx_luxPub (s : State) (e : ErrorKind) : (s.abortProx e).luxPub = s.luxPub := rfl
@[simp] theorem State.abortProx_pxInfoClear (s : State) (e : ErrorKind) : (s.abortProx e).pxInfoClear = s.pxInfoClear := rfl
@[simp] theorem State.abortProx_pxInfoRaw (s : State) (e : ErrorKind) : (s.abortProx e).pxInfoRaw = s.pxInfoRaw := rfl
@[simp] theorem State.abortProx_pxEvent (s : State) (e : ErrorKind) : (s.abortProx e).pxEvent = s.pxEvent := rfl
@[simp] theorem State.abortProx_pxArmHi (s : State) (e : ErrorKind) : (s.abortProx e).pxArmHi = s.pxArmHi := rfl
@[simp] theorem State.abortProx_pxArmLo (s : State) (e : ErrorKind) : (s.abortProx e).pxArmLo = s.pxArmLo := rfl
@[simp] theorem State.abortProx_pxCalMax (s : State) (e : ErrorKind) : (s.abortProx e).pxCalMax = s.pxCalMax := rfl
@[simp] theorem State.abortProx_alsLastStatus (s : State) (e : ErrorKind) : (s.abortProx e).alsLastStatus = s.alsLastStatus := rfl
@[simp] theorem State.abortProx_proxLastStatus (s : State) (e : ErrorKind) : (s.abortProx e).proxLastStatus = e.code := rfl
@[simp] theorem State.abortProx_dispLastStatus (s : State) (e : ErrorKind) : (s.abortProx e).dispLastStatus = s.dispLastStatus := rfl
@[simp] theorem State.abortProx_alsPending (s : State) (e : ErrorKind) : (s.abortProx e).alsPending = s.alsPending := rfl
@[simp] theorem State.abortProx_alsBusy (s : State) (e : ErrorKind) : (s.abortProx e).alsBusy = s.alsBusy := rfl
@[simp] theorem State.abortProx_proxPending (s : State) (e : ErrorKind) : (s.abortProx e).proxPending = s.proxPending := rfl
@[simp] theorem State.abortProx_proxBusy (s : State) (e : ErrorKind) : (s.abortProx e).proxBusy = false := rfl
@[simp] theorem State.abortProx_dispState (s : State) (e : ErrorKind) : (s.abortProx e).dispState = s.dispState := rfl
@[simp] theorem State.abortProx_hostCmd (s : State) (e : ErrorKind) : (s.abortProx e).hostCmd = s.hostCmd := rfl
@[simp] theorem State.abortProx_responses (s : State) (e : ErrorKind) : (s.abortProx e).responses = s.responses := rfl
@[simp] theorem State.abortProx_history (s : State) (e : ErrorKind) : (s.abortProx e).history = s.history := rfl
@[simp] theorem State.abortProx_params (s : State) (e : ErrorKind) : (s.abortProx e).params = s.params := rfl
@[simp] theorem State.abortProx_answers (s : State) (e : ErrorKind) : (s.abortProx e).answers = s.answers := rfl
@[simp] theorem State.abortProx_schedule (s : State) (e : ErrorKind) : (s.abortProx e).schedule = s.schedule := rfl
@[simp] theorem State.abortProx_freeCount (s : State) (e : ErrorKind) : (s.abortProx e).freeCount = s.freeCount := rfl
@[simp] theorem State.abortProx_portReq (s : State) (e : ErrorKind) : (s.abortProx e).portReq = s.portReq := rfl

/-! ## State.commitLight -/

@[simp] theorem State.commitLight_cfg (s : State) (v : Lux) : (s.commitLight v).cfg = s.cfg := rfl
@[simp] theorem State.commitLight_derived (s : State) (v : Lux) : (s.commitLight v).derived = s.derived := rfl
@[simp] theorem State.commitLight_alsEn (s : State) (v : Lux) : (s.commitLight v).alsEn = s.alsEn := rfl
@[simp] theorem State.commitLight_proxEn (s : State) (v : Lux) : (s.commitLight v).proxEn = s.proxEn := rfl
@[simp] theorem State.commitLight_hist (s : State) (v : Lux) : (s.commitLight v).hist = pushHistory v s.hist := rfl
@[simp] theorem State.commitLight_luxPub (s : State) (v : Lux) : (s.commitLight v).luxPub = medianOutput (pushHistory v s.hist) := rfl
@[simp] theorem State.commitLight_pxInfoClear (s : State) (v : Lux) : (s.commitLight v).pxInfoClear = s.pxInfoClear := rfl
@[simp] theorem State.commitLight_pxInfoRaw (s : State) (v : Lux) : (s.commitLight v).pxInfoRaw = s.pxInfoRaw := rfl
@[simp] theorem State.commitLight_pxEvent (s : State) (v : Lux) : (s.commitLight v).pxEvent = s.pxEvent := rfl
@[simp] theorem State.commitLight_pxArmHi (s : State) (v : Lux) : (s.commitLight v).pxArmHi = s.pxArmHi := rfl
@[simp] theorem State.commitLight_pxArmLo (s : State) (v : Lux) : (s.commitLight v).pxArmLo = s.pxArmLo := rfl
@[simp] theorem State.commitLight_pxCalMax (s : State) (v : Lux) : (s.commitLight v).pxCalMax = s.pxCalMax := rfl
@[simp] theorem State.commitLight_alsLastStatus (s : State) (v : Lux) : (s.commitLight v).alsLastStatus = statusOk := rfl
@[simp] theorem State.commitLight_proxLastStatus (s : State) (v : Lux) : (s.commitLight v).proxLastStatus = s.proxLastStatus := rfl
@[simp] theorem State.commitLight_dispLastStatus (s : State) (v : Lux) : (s.commitLight v).dispLastStatus = s.dispLastStatus := rfl
@[simp] theorem State.commitLight_alsPending (s : State) (v : Lux) : (s.commitLight v).alsPending = s.alsPending := rfl
@[simp] theorem State.commitLight_alsBusy (s : State) (v : Lux) : (s.commitLight v).alsBusy = false := rfl
@[simp] theorem State.commitLight_proxPending (s : State) (v : Lux) : (s.commitLight v).proxPending = s.proxPending := rfl
@[simp] theorem State.commitLight_proxBusy (s : State) (v : Lux) : (s.commitLight v).proxBusy = s.proxBusy := rfl
@[simp] theorem State.commitLight_dispState (s : State) (v : Lux) : (s.commitLight v).dispState = s.dispState := rfl
@[simp] theorem State.commitLight_hostCmd (s : State) (v : Lux) : (s.commitLight v).hostCmd = s.hostCmd := rfl
@[simp] theorem State.commitLight_responses (s : State) (v : Lux) : (s.commitLight v).responses = s.responses := rfl
@[simp] theorem State.commitLight_history (s : State) (v : Lux) : (s.commitLight v).history = s.history := rfl
@[simp] theorem State.commitLight_params (s : State) (v : Lux) : (s.commitLight v).params = s.params := rfl
@[simp] theorem State.commitLight_answers (s : State) (v : Lux) : (s.commitLight v).answers = s.answers := rfl
@[simp] theorem State.commitLight_schedule (s : State) (v : Lux) : (s.commitLight v).schedule = s.schedule := rfl
@[simp] theorem State.commitLight_freeCount (s : State) (v : Lux) : (s.commitLight v).freeCount = s.freeCount := rfl
@[simp] theorem State.commitLight_portReq (s : State) (v : Lux) : (s.commitLight v).portReq = s.portReq := rfl

/-! ## State.commitProx -/

@[simp] theorem State.commitProx_cfg (s : State) (r : ProxResult) : (s.commitProx r).cfg = s.cfg := rfl
@[simp] theorem State.commitProx_derived (s : State) (r : ProxResult) : (s.commitProx r).derived = s.derived := rfl
@[simp] theorem State.commitProx_alsEn (s : State) (r : ProxResult) : (s.commitProx r).alsEn = s.alsEn := rfl
@[simp] theorem State.commitProx_proxEn (s : State) (r : ProxResult) : (s.commitProx r).proxEn = s.proxEn := rfl
@[simp] theorem State.commitProx_hist (s : State) (r : ProxResult) : (s.commitProx r).hist = s.hist := rfl
@[simp] theorem State.commitProx_luxPub (s : State) (r : ProxResult) : (s.commitProx r).luxPub = s.luxPub := rfl
@[simp] theorem State.commitProx_pxInfoClear (s : State) (r : ProxResult) : (s.commitProx r).pxInfoClear = r.clear := rfl
@[simp] theorem State.commitProx_pxInfoRaw (s : State) (r : ProxResult) : (s.commitProx r).pxInfoRaw = r.raw := rfl
@[simp] theorem State.commitProx_pxEvent (s : State) (r : ProxResult) : (s.commitProx r).pxEvent = r.compared.event := rfl
@[simp] theorem State.commitProx_pxArmHi (s : State) (r : ProxResult) : (s.commitProx r).pxArmHi = r.compared.hi := rfl
@[simp] theorem State.commitProx_pxArmLo (s : State) (r : ProxResult) : (s.commitProx r).pxArmLo = r.compared.lo := rfl
@[simp] theorem State.commitProx_pxCalMax (s : State) (r : ProxResult) : (s.commitProx r).pxCalMax = s.pxCalMax := rfl
@[simp] theorem State.commitProx_alsLastStatus (s : State) (r : ProxResult) : (s.commitProx r).alsLastStatus = s.alsLastStatus := rfl
@[simp] theorem State.commitProx_proxLastStatus (s : State) (r : ProxResult) : (s.commitProx r).proxLastStatus = statusOk := rfl
@[simp] theorem State.commitProx_dispLastStatus (s : State) (r : ProxResult) : (s.commitProx r).dispLastStatus = s.dispLastStatus := rfl
@[simp] theorem State.commitProx_alsPending (s : State) (r : ProxResult) : (s.commitProx r).alsPending = s.alsPending := rfl
@[simp] theorem State.commitProx_alsBusy (s : State) (r : ProxResult) : (s.commitProx r).alsBusy = s.alsBusy := rfl
@[simp] theorem State.commitProx_proxPending (s : State) (r : ProxResult) : (s.commitProx r).proxPending = s.proxPending := rfl
@[simp] theorem State.commitProx_proxBusy (s : State) (r : ProxResult) : (s.commitProx r).proxBusy = false := rfl
@[simp] theorem State.commitProx_dispState (s : State) (r : ProxResult) : (s.commitProx r).dispState = s.dispState := rfl
@[simp] theorem State.commitProx_hostCmd (s : State) (r : ProxResult) : (s.commitProx r).hostCmd = s.hostCmd := rfl
@[simp] theorem State.commitProx_responses (s : State) (r : ProxResult) : (s.commitProx r).responses = s.responses := rfl
@[simp] theorem State.commitProx_history (s : State) (r : ProxResult) : (s.commitProx r).history = s.history := rfl
@[simp] theorem State.commitProx_params (s : State) (r : ProxResult) : (s.commitProx r).params = s.params := rfl
@[simp] theorem State.commitProx_answers (s : State) (r : ProxResult) : (s.commitProx r).answers = s.answers := rfl
@[simp] theorem State.commitProx_schedule (s : State) (r : ProxResult) : (s.commitProx r).schedule = s.schedule := rfl
@[simp] theorem State.commitProx_freeCount (s : State) (r : ProxResult) : (s.commitProx r).freeCount = s.freeCount := rfl
@[simp] theorem State.commitProx_portReq (s : State) (r : ProxResult) : (s.commitProx r).portReq = s.portReq := rfl

/-! ## State.dispatch -/

@[simp] theorem State.dispatch_cfg (s : State) (b : Byte) : (s.dispatch b).cfg = s.cfg := rfl
@[simp] theorem State.dispatch_derived (s : State) (b : Byte) : (s.dispatch b).derived = s.derived := rfl
@[simp] theorem State.dispatch_alsEn (s : State) (b : Byte) : (s.dispatch b).alsEn = s.alsEn := rfl
@[simp] theorem State.dispatch_proxEn (s : State) (b : Byte) : (s.dispatch b).proxEn = s.proxEn := rfl
@[simp] theorem State.dispatch_hist (s : State) (b : Byte) : (s.dispatch b).hist = s.hist := rfl
@[simp] theorem State.dispatch_luxPub (s : State) (b : Byte) : (s.dispatch b).luxPub = s.luxPub := rfl
@[simp] theorem State.dispatch_pxInfoClear (s : State) (b : Byte) : (s.dispatch b).pxInfoClear = s.pxInfoClear := rfl
@[simp] theorem State.dispatch_pxInfoRaw (s : State) (b : Byte) : (s.dispatch b).pxInfoRaw = s.pxInfoRaw := rfl
@[simp] theorem State.dispatch_pxEvent (s : State) (b : Byte) : (s.dispatch b).pxEvent = s.pxEvent := rfl
@[simp] theorem State.dispatch_pxArmHi (s : State) (b : Byte) : (s.dispatch b).pxArmHi = s.pxArmHi := rfl
@[simp] theorem State.dispatch_pxArmLo (s : State) (b : Byte) : (s.dispatch b).pxArmLo = s.pxArmLo := rfl
@[simp] theorem State.dispatch_pxCalMax (s : State) (b : Byte) : (s.dispatch b).pxCalMax = s.pxCalMax := rfl
@[simp] theorem State.dispatch_alsLastStatus (s : State) (b : Byte) : (s.dispatch b).alsLastStatus = s.alsLastStatus := rfl
@[simp] theorem State.dispatch_proxLastStatus (s : State) (b : Byte) : (s.dispatch b).proxLastStatus = s.proxLastStatus := rfl
@[simp] theorem State.dispatch_dispLastStatus (s : State) (b : Byte) : (s.dispatch b).dispLastStatus = statusOk := rfl
@[simp] theorem State.dispatch_alsPending (s : State) (b : Byte) : (s.dispatch b).alsPending = (s.alsPending || requestsLight s.params b) := rfl
@[simp] theorem State.dispatch_alsBusy (s : State) (b : Byte) : (s.dispatch b).alsBusy = s.alsBusy := rfl
@[simp] theorem State.dispatch_proxPending (s : State) (b : Byte) : (s.dispatch b).proxPending = (s.proxPending || requestsProx s.params b) := rfl
@[simp] theorem State.dispatch_proxBusy (s : State) (b : Byte) : (s.dispatch b).proxBusy = s.proxBusy := rfl
@[simp] theorem State.dispatch_dispState (s : State) (b : Byte) : (s.dispatch b).dispState = s.dispState := rfl
@[simp] theorem State.dispatch_hostCmd (s : State) (b : Byte) : (s.dispatch b).hostCmd = s.hostCmd := rfl
@[simp] theorem State.dispatch_responses (s : State) (b : Byte) : (s.dispatch b).responses = s.responses := rfl
@[simp] theorem State.dispatch_history (s : State) (b : Byte) : (s.dispatch b).history = s.history := rfl
@[simp] theorem State.dispatch_params (s : State) (b : Byte) : (s.dispatch b).params = s.params := rfl
@[simp] theorem State.dispatch_answers (s : State) (b : Byte) : (s.dispatch b).answers = s.answers := rfl
@[simp] theorem State.dispatch_schedule (s : State) (b : Byte) : (s.dispatch b).schedule = s.schedule := rfl
@[simp] theorem State.dispatch_freeCount (s : State) (b : Byte) : (s.dispatch b).freeCount = s.freeCount := rfl
@[simp] theorem State.dispatch_portReq (s : State) (b : Byte) : (s.dispatch b).portReq = s.portReq := rfl

/-! ## State.enqueueLight -/

@[simp] theorem State.enqueueLight_cfg (s : State) : (s.enqueueLight).cfg = s.cfg := rfl
@[simp] theorem State.enqueueLight_derived (s : State) : (s.enqueueLight).derived = s.derived := rfl
@[simp] theorem State.enqueueLight_alsEn (s : State) : (s.enqueueLight).alsEn = s.alsEn := rfl
@[simp] theorem State.enqueueLight_proxEn (s : State) : (s.enqueueLight).proxEn = s.proxEn := rfl
@[simp] theorem State.enqueueLight_hist (s : State) : (s.enqueueLight).hist = s.hist := rfl
@[simp] theorem State.enqueueLight_luxPub (s : State) : (s.enqueueLight).luxPub = s.luxPub := rfl
@[simp] theorem State.enqueueLight_pxInfoClear (s : State) : (s.enqueueLight).pxInfoClear = s.pxInfoClear := rfl
@[simp] theorem State.enqueueLight_pxInfoRaw (s : State) : (s.enqueueLight).pxInfoRaw = s.pxInfoRaw := rfl
@[simp] theorem State.enqueueLight_pxEvent (s : State) : (s.enqueueLight).pxEvent = s.pxEvent := rfl
@[simp] theorem State.enqueueLight_pxArmHi (s : State) : (s.enqueueLight).pxArmHi = s.pxArmHi := rfl
@[simp] theorem State.enqueueLight_pxArmLo (s : State) : (s.enqueueLight).pxArmLo = s.pxArmLo := rfl
@[simp] theorem State.enqueueLight_pxCalMax (s : State) : (s.enqueueLight).pxCalMax = s.pxCalMax := rfl
@[simp] theorem State.enqueueLight_alsLastStatus (s : State) : (s.enqueueLight).alsLastStatus = s.alsLastStatus := rfl
@[simp] theorem State.enqueueLight_proxLastStatus (s : State) : (s.enqueueLight).proxLastStatus = s.proxLastStatus := rfl
@[simp] theorem State.enqueueLight_dispLastStatus (s : State) : (s.enqueueLight).dispLastStatus = s.dispLastStatus := rfl
@[simp] theorem State.enqueueLight_alsPending (s : State) : (s.enqueueLight).alsPending = true := rfl
@[simp] theorem State.enqueueLight_alsBusy (s : State) : (s.enqueueLight).alsBusy = s.alsBusy := rfl
@[simp] theorem State.enqueueLight_proxPending (s : State) : (s.enqueueLight).proxPending = s.proxPending := rfl
@[simp] theorem State.enqueueLight_proxBusy (s : State) : (s.enqueueLight).proxBusy = s.proxBusy := rfl
@[simp] theorem State.enqueueLight_dispState (s : State) : (s.enqueueLight).dispState = s.dispState := rfl
@[simp] theorem State.enqueueLight_hostCmd (s : State) : (s.enqueueLight).hostCmd = s.hostCmd := rfl
@[simp] theorem State.enqueueLight_responses (s : State) : (s.enqueueLight).responses = s.responses := rfl
@[simp] theorem State.enqueueLight_history (s : State) : (s.enqueueLight).history = s.history := rfl
@[simp] theorem State.enqueueLight_params (s : State) : (s.enqueueLight).params = s.params := rfl
@[simp] theorem State.enqueueLight_answers (s : State) : (s.enqueueLight).answers = s.answers := rfl
@[simp] theorem State.enqueueLight_schedule (s : State) : (s.enqueueLight).schedule = s.schedule := rfl
@[simp] theorem State.enqueueLight_freeCount (s : State) : (s.enqueueLight).freeCount = s.freeCount := rfl
@[simp] theorem State.enqueueLight_portReq (s : State) : (s.enqueueLight).portReq = s.portReq := rfl

/-! ## State.enqueueProx -/

@[simp] theorem State.enqueueProx_cfg (s : State) : (s.enqueueProx).cfg = s.cfg := rfl
@[simp] theorem State.enqueueProx_derived (s : State) : (s.enqueueProx).derived = s.derived := rfl
@[simp] theorem State.enqueueProx_alsEn (s : State) : (s.enqueueProx).alsEn = s.alsEn := rfl
@[simp] theorem State.enqueueProx_proxEn (s : State) : (s.enqueueProx).proxEn = s.proxEn := rfl
@[simp] theorem State.enqueueProx_hist (s : State) : (s.enqueueProx).hist = s.hist := rfl
@[simp] theorem State.enqueueProx_luxPub (s : State) : (s.enqueueProx).luxPub = s.luxPub := rfl
@[simp] theorem State.enqueueProx_pxInfoClear (s : State) : (s.enqueueProx).pxInfoClear = s.pxInfoClear := rfl
@[simp] theorem State.enqueueProx_pxInfoRaw (s : State) : (s.enqueueProx).pxInfoRaw = s.pxInfoRaw := rfl
@[simp] theorem State.enqueueProx_pxEvent (s : State) : (s.enqueueProx).pxEvent = s.pxEvent := rfl
@[simp] theorem State.enqueueProx_pxArmHi (s : State) : (s.enqueueProx).pxArmHi = s.pxArmHi := rfl
@[simp] theorem State.enqueueProx_pxArmLo (s : State) : (s.enqueueProx).pxArmLo = s.pxArmLo := rfl
@[simp] theorem State.enqueueProx_pxCalMax (s : State) : (s.enqueueProx).pxCalMax = s.pxCalMax := rfl
@[simp] theorem State.enqueueProx_alsLastStatus (s : State) : (s.enqueueProx).alsLastStatus = s.alsLastStatus := rfl
@[simp] theorem State.enqueueProx_proxLastStatus (s : State) : (s.enqueueProx).proxLastStatus = s.proxLastStatus := rfl
@[simp] theorem State.enqueueProx_dispLastStatus (s : State) : (s.enqueueProx).dispLastStatus = s.dispLastStatus := rfl
@[simp] theorem State.enqueueProx_alsPending (s : State) : (s.enqueueProx).alsPending = s.alsPending := rfl
@[simp] theorem State.enqueueProx_alsBusy (s : State) : (s.enqueueProx).alsBusy = s.alsBusy := rfl
@[simp] theorem State.enqueueProx_proxPending (s : State) : (s.enqueueProx).proxPending = true := rfl
@[simp] theorem State.enqueueProx_proxBusy (s : State) : (s.enqueueProx).proxBusy = s.proxBusy := rfl
@[simp] theorem State.enqueueProx_dispState (s : State) : (s.enqueueProx).dispState = s.dispState := rfl
@[simp] theorem State.enqueueProx_hostCmd (s : State) : (s.enqueueProx).hostCmd = s.hostCmd := rfl
@[simp] theorem State.enqueueProx_responses (s : State) : (s.enqueueProx).responses = s.responses := rfl
@[simp] theorem State.enqueueProx_history (s : State) : (s.enqueueProx).history = s.history := rfl
@[simp] theorem State.enqueueProx_params (s : State) : (s.enqueueProx).params = s.params := rfl
@[simp] theorem State.enqueueProx_answers (s : State) : (s.enqueueProx).answers = s.answers := rfl
@[simp] theorem State.enqueueProx_schedule (s : State) : (s.enqueueProx).schedule = s.schedule := rfl
@[simp] theorem State.enqueueProx_freeCount (s : State) : (s.enqueueProx).freeCount = s.freeCount := rfl
@[simp] theorem State.enqueueProx_portReq (s : State) : (s.enqueueProx).portReq = s.portReq := rfl

/-! ## State.medianRestart -/

@[simp] theorem State.medianRestart_cfg (s : State) : (s.medianRestart).cfg = s.cfg := rfl
@[simp] theorem State.medianRestart_derived (s : State) : (s.medianRestart).derived = s.derived := rfl
@[simp] theorem State.medianRestart_alsEn (s : State) : (s.medianRestart).alsEn = s.alsEn := rfl
@[simp] theorem State.medianRestart_proxEn (s : State) : (s.medianRestart).proxEn = s.proxEn := rfl
@[simp] theorem State.medianRestart_hist (s : State) : (s.medianRestart).hist = ⟨none, none, none⟩ := rfl
@[simp] theorem State.medianRestart_luxPub (s : State) : (s.medianRestart).luxPub = none := rfl
@[simp] theorem State.medianRestart_pxInfoClear (s : State) : (s.medianRestart).pxInfoClear = s.pxInfoClear := rfl
@[simp] theorem State.medianRestart_pxInfoRaw (s : State) : (s.medianRestart).pxInfoRaw = s.pxInfoRaw := rfl
@[simp] theorem State.medianRestart_pxEvent (s : State) : (s.medianRestart).pxEvent = s.pxEvent := rfl
@[simp] theorem State.medianRestart_pxArmHi (s : State) : (s.medianRestart).pxArmHi = s.pxArmHi := rfl
@[simp] theorem State.medianRestart_pxArmLo (s : State) : (s.medianRestart).pxArmLo = s.pxArmLo := rfl
@[simp] theorem State.medianRestart_pxCalMax (s : State) : (s.medianRestart).pxCalMax = s.pxCalMax := rfl
@[simp] theorem State.medianRestart_alsLastStatus (s : State) : (s.medianRestart).alsLastStatus = s.alsLastStatus := rfl
@[simp] theorem State.medianRestart_proxLastStatus (s : State) : (s.medianRestart).proxLastStatus = s.proxLastStatus := rfl
@[simp] theorem State.medianRestart_dispLastStatus (s : State) : (s.medianRestart).dispLastStatus = s.dispLastStatus := rfl
@[simp] theorem State.medianRestart_alsPending (s : State) : (s.medianRestart).alsPending = s.alsPending := rfl
@[simp] theorem State.medianRestart_alsBusy (s : State) : (s.medianRestart).alsBusy = s.alsBusy := rfl
@[simp] theorem State.medianRestart_proxPending (s : State) : (s.medianRestart).proxPending = s.proxPending := rfl
@[simp] theorem State.medianRestart_proxBusy (s : State) : (s.medianRestart).proxBusy = s.proxBusy := rfl
@[simp] theorem State.medianRestart_dispState (s : State) : (s.medianRestart).dispState = s.dispState := rfl
@[simp] theorem State.medianRestart_hostCmd (s : State) : (s.medianRestart).hostCmd = s.hostCmd := rfl
@[simp] theorem State.medianRestart_responses (s : State) : (s.medianRestart).responses = s.responses := rfl
@[simp] theorem State.medianRestart_history (s : State) : (s.medianRestart).history = s.history := rfl
@[simp] theorem State.medianRestart_params (s : State) : (s.medianRestart).params = s.params := rfl
@[simp] theorem State.medianRestart_answers (s : State) : (s.medianRestart).answers = s.answers := rfl
@[simp] theorem State.medianRestart_schedule (s : State) : (s.medianRestart).schedule = s.schedule := rfl
@[simp] theorem State.medianRestart_freeCount (s : State) : (s.medianRestart).freeCount = s.freeCount := rfl
@[simp] theorem State.medianRestart_portReq (s : State) : (s.medianRestart).portReq = s.portReq := rfl

/-! ## State.armProximity -/

@[simp] theorem State.armProximity_cfg (s : State) : (s.armProximity).cfg = s.cfg := rfl
@[simp] theorem State.armProximity_derived (s : State) : (s.armProximity).derived = s.derived := rfl
@[simp] theorem State.armProximity_alsEn (s : State) : (s.armProximity).alsEn = s.alsEn := rfl
@[simp] theorem State.armProximity_proxEn (s : State) : (s.armProximity).proxEn = true := rfl
@[simp] theorem State.armProximity_hist (s : State) : (s.armProximity).hist = s.hist := rfl
@[simp] theorem State.armProximity_luxPub (s : State) : (s.armProximity).luxPub = s.luxPub := rfl
@[simp] theorem State.armProximity_pxInfoClear (s : State) : (s.armProximity).pxInfoClear = 0 := rfl
@[simp] theorem State.armProximity_pxInfoRaw (s : State) : (s.armProximity).pxInfoRaw = 0 := rfl
@[simp] theorem State.armProximity_pxEvent (s : State) : (s.armProximity).pxEvent = false := rfl
@[simp] theorem State.armProximity_pxArmHi (s : State) : (s.armProximity).pxArmHi = s.cfg.proxHi := rfl
@[simp] theorem State.armProximity_pxArmLo (s : State) : (s.armProximity).pxArmLo = s.cfg.proxLo := rfl
@[simp] theorem State.armProximity_pxCalMax (s : State) : (s.armProximity).pxCalMax = s.pxCalMax := rfl
@[simp] theorem State.armProximity_alsLastStatus (s : State) : (s.armProximity).alsLastStatus = s.alsLastStatus := rfl
@[simp] theorem State.armProximity_proxLastStatus (s : State) : (s.armProximity).proxLastStatus = s.proxLastStatus := rfl
@[simp] theorem State.armProximity_dispLastStatus (s : State) : (s.armProximity).dispLastStatus = s.dispLastStatus := rfl
@[simp] theorem State.armProximity_alsPending (s : State) : (s.armProximity).alsPending = s.alsPending := rfl
@[simp] theorem State.armProximity_alsBusy (s : State) : (s.armProximity).alsBusy = s.alsBusy := rfl
@[simp] theorem State.armProximity_proxPending (s : State) : (s.armProximity).proxPending = s.proxPending := rfl
@[simp] theorem State.armProximity_proxBusy (s : State) : (s.armProximity).proxBusy = s.proxBusy := rfl
@[simp] theorem State.armProximity_dispState (s : State) : (s.armProximity).dispState = s.dispState := rfl
@[simp] theorem State.armProximity_hostCmd (s : State) : (s.armProximity).hostCmd = s.hostCmd := rfl
@[simp] theorem State.armProximity_responses (s : State) : (s.armProximity).responses = s.responses := rfl
@[simp] theorem State.armProximity_history (s : State) : (s.armProximity).history = s.history := rfl
@[simp] theorem State.armProximity_params (s : State) : (s.armProximity).params = s.params := rfl
@[simp] theorem State.armProximity_answers (s : State) : (s.armProximity).answers = s.answers := rfl
@[simp] theorem State.armProximity_schedule (s : State) : (s.armProximity).schedule = s.schedule := rfl
@[simp] theorem State.armProximity_freeCount (s : State) : (s.armProximity).freeCount = s.freeCount := rfl
@[simp] theorem State.armProximity_portReq (s : State) : (s.armProximity).portReq = s.portReq := rfl

end Sys2Proof.Machine
end

