-- ==== Sys2Proof/Laws/Ops.lean ====
section
/-! SUPPORT. For each shared operation, once, everything it can do: the answers, the sequencing of an operation, the three
sensor-port primitives, and the frame of an operation's body (it touches the port only). -/

namespace Sys2Proof.Machine

/-! ## Answers -/

@[simp] theorem State.afterAnswers_zero (s : State) : s.afterAnswers 0 = s := by
  simp [State.afterAnswers]

@[simp] theorem State.afterAnswers_add (s : State) (a b : Nat) :
    (s.afterAnswers a).afterAnswers b = s.afterAnswers (a + b) := by
  simp [State.afterAnswers]
  omega

@[simp] theorem State.answerAt_afterAnswers (s : State) (a b : Nat) :
    (s.afterAnswers a).answerAt b = s.answerAt (a + b) := by
  simp only [State.answerAt, State.afterAnswers, List.getD_eq_getElem?_getD, List.getElem?_drop, List.length_drop]
  congr 2
  omega

@[simp] theorem State.answerAt_record (s : State) (e : PortEvent) (k : Nat) :
    (s.record e).answerAt k = s.answerAt (1 + k) :=
  s.answerAt_afterAnswers 1 k

/-- Recording an entry after a list of transactions is one more transaction. -/
theorem State.afterTransactions_record (s : State) (es : List PortEvent) (e : PortEvent) :
    (s.afterTransactions es).record e = s.afterTransactions (es ++ [e]) := by
  simp only [State.record, State.afterTransactions, State.afterAnswers, List.drop_drop, List.length_append,
    List.length_drop, List.length_cons, List.length_nil, List.append_assoc]
  congr 1
  omega

@[simp] theorem State.afterTransactions_nil (s : State) : s.afterTransactions [] = s := by
  simp [State.afterTransactions, State.afterAnswers]

/-- A first transaction is recorded as the one-entry list. -/
theorem State.record_eq (s : State) (e : PortEvent) : s.record e = s.afterTransactions [e] := rfl

@[simp] theorem State.answerAt_afterTransactions (s : State) (es : List PortEvent) (k : Nat) :
    (s.afterTransactions es).answerAt k = s.answerAt (es.length + k) :=
  s.answerAt_afterAnswers es.length k

/-! ## Sequencing -/

theorem Op.andThen_ok {α β : Type} {x : Op α} {f : α → Op β} {s t : State} {a : α} (h : x s = (.ok a, t)) :
    Op.andThen x f s = f a t := by
  simp [Op.andThen, h]

theorem Op.andThen_error {α β : Type} {x : Op α} {f : α → Op β} {s t : State} {e : ErrorKind}
    (h : x s = (.error e, t)) : Op.andThen x f s = (.error e, t) := by
  simp [Op.andThen, h]

/-- What a sequence can do: its first part raises, or it goes on with a value. -/
theorem Op.andThen_cases {α β : Type} (x : Op α) (f : α → Op β) (s : State) :
    (∃ e t, x s = (.error e, t) ∧ Op.andThen x f s = (.error e, t))
      ∨ ∃ a t, x s = (.ok a, t) ∧ Op.andThen x f s = f a t := by
  rcases h : x s with ⟨_ | a, t⟩
  · exact .inl ⟨_, t, rfl, Op.andThen_error h⟩
  · exact .inr ⟨a, t, rfl, Op.andThen_ok h⟩

/-! ## Primitives -/

theorem memRead_ok {agent : Agent} {addr : SensorAddr} {n : Nat} {s : State} (h : (s.answerAt 0).ok = true) :
    memRead agent addr n s
      = (.ok (answerBytes (s.answerAt 0) n), s.record (readEvent agent addr n (s.answerAt 0))) := by
  simp [memRead, h]

theorem memRead_err {agent : Agent} {addr : SensorAddr} {n : Nat} {s : State} (h : (s.answerAt 0).ok = false) :
    memRead agent addr n s
      = (.error .transportError, s.record (readEvent agent addr n (s.answerAt 0))) := by
  simp [memRead, h]

theorem memWrite_ok {agent : Agent} {addr : SensorAddr} {v : U16} {s : State} (h : (s.answerAt 0).ok = true) :
    memWrite agent addr v s = (.ok (), s.record (writeEvent agent addr v (s.answerAt 0))) := by
  simp [memWrite, h]

theorem memWrite_err {agent : Agent} {addr : SensorAddr} {v : U16} {s : State} (h : (s.answerAt 0).ok = false) :
    memWrite agent addr v s
      = (.error .transportError, s.record (writeEvent agent addr v (s.answerAt 0))) := by
  simp [memWrite, h]

theorem busSF_ok {agent : Agent} {code : SensorAddr} {s : State} (h : (s.answerAt 0).ok = true) :
    busSF agent code s = (.ok (), s.record (functionEvent agent code (s.answerAt 0))) := by
  simp [busSF, h]

theorem busSF_err {agent : Agent} {code : SensorAddr} {s : State} (h : (s.answerAt 0).ok = false) :
    busSF agent code s = (.error .transportError, s.record (functionEvent agent code (s.answerAt 0))) := by
  simp [busSF, h]

/-! ## The frame of an operation's body -/

/-- `t` is `s` after some transactions and nothing else; each entry meets `P`. -/
def portFrame (P : PortEvent → Prop) (s t : State) : Prop :=
  ∃ es, t = s.afterTransactions es ∧ ∀ e ∈ es, P e

/-- A body that only issues transactions whose entries meet `P`, from any state. -/
def onlyPort {α : Type} (P : PortEvent → Prop) (x : Op α) : Prop := ∀ s, portFrame P s (x s).2

theorem portFrame_refl (P : PortEvent → Prop) (s : State) : portFrame P s s :=
  ⟨[], by simp, by simp⟩

theorem State.afterTransactions_append (s : State) (es fs : List PortEvent) :
    (s.afterTransactions es).afterTransactions fs = s.afterTransactions (es ++ fs) := by
  simp only [State.afterTransactions, State.afterAnswers, List.drop_drop, List.length_append, List.length_drop,
    List.append_assoc]
  congr 1
  omega

theorem portFrame_trans {P : PortEvent → Prop} {s t u : State} (h : portFrame P s t) (k : portFrame P t u) :
    portFrame P s u := by
  obtain ⟨es, rfl, he⟩ := h
  obtain ⟨fs, rfl, hf⟩ := k
  refine ⟨es ++ fs, s.afterTransactions_append es fs, fun e m => ?_⟩
  rcases List.mem_append.1 m with m | m
  · exact he e m
  · exact hf e m

theorem portFrame_record {P : PortEvent → Prop} (s : State) {e : PortEvent} (h : P e) :
    portFrame P s (s.record e) :=
  ⟨[e], rfl, by simpa using h⟩

theorem onlyPort_done {α : Type} (P : PortEvent → Prop) (a : α) : onlyPort P (Op.done a) :=
  fun s => portFrame_refl P s

theorem onlyPort_fail {α : Type} (P : PortEvent → Prop) (e : ErrorKind) : onlyPort P (Op.fail e : Op α) :=
  fun s => portFrame_refl P s

theorem onlyPort_andThen {α β : Type} {P : PortEvent → Prop} {x : Op α} {f : α → Op β} (hx : onlyPort P x)
    (hf : ∀ a, onlyPort P (f a)) : onlyPort P (Op.andThen x f) := by
  intro s
  have hs := hx s
  rcases Op.andThen_cases x f s with ⟨e, t, h, k⟩ | ⟨a, t, h, k⟩ <;> rw [k] <;> rw [h] at hs
  · exact hs
  · exact portFrame_trans hs (hf a t)

theorem onlyPort_memRead {P : PortEvent → Prop} {agent : Agent} {addr : SensorAddr} {n : Nat}
    (h : ∀ a, P (readEvent agent addr n a)) : onlyPort P (memRead agent addr n) :=
  fun s => portFrame_record s (h _)

theorem onlyPort_memWrite {P : PortEvent → Prop} {agent : Agent} {addr : SensorAddr} {v : U16}
    (h : ∀ a, P (writeEvent agent addr v a)) : onlyPort P (memWrite agent addr v) :=
  fun s => portFrame_record s (h _)

theorem onlyPort_busSF {P : PortEvent → Prop} {agent : Agent} {code : SensorAddr}
    (h : ∀ a, P (functionEvent agent code a)) : onlyPort P (busSF agent code) :=
  fun s => portFrame_record s (h _)

/-! ## The bodies of the passes and of calibration -/

/-- The transactions a light pass may issue (R91). -/
def lightTransaction (p : Params) (e : PortEvent) : Prop :=
  (∃ a, e = readEvent .lightUnit p.regData 4 a) ∨ (∃ v a, e = writeEvent .lightUnit p.regAilt v a)
    ∨ (∃ v a, e = writeEvent .lightUnit p.regAiht v a) ∨ ∃ a, e = functionEvent .lightUnit sfAlsCode a

/-- The transactions a proximity pass may issue (R92). -/
def proxTransaction (p : Params) (e : PortEvent) : Prop :=
  (∃ a, e = readEvent .proxUnit p.regData 6 a) ∨ (∃ v a, e = writeEvent .proxUnit p.regPilt v a)
    ∨ (∃ v a, e = writeEvent .proxUnit p.regPiht v a) ∨ ∃ a, e = functionEvent .proxUnit sfProxCode a

/-- The transactions a calibration may issue (R83). -/
def calTransaction (p : Params) (e : PortEvent) : Prop :=
  (∃ a, e = readEvent .hostCommand p.regData 6 a) ∨ (∃ v a, e = writeEvent .hostCommand p.regPilt v a)
    ∨ ∃ v a, e = writeEvent .hostCommand p.regPiht v a

theorem lightBody_frame (s : State) : portFrame (lightTransaction s.params) s (lightBody s).2 := by
  refine onlyPort_andThen (onlyPort_memRead fun a => .inl ⟨a, rfl⟩) (fun r => ?_) s
  refine onlyPort_andThen (onlyPort_memWrite fun a => .inr (.inl ⟨_, a, rfl⟩)) fun _ => ?_
  refine onlyPort_andThen (onlyPort_memWrite fun a => .inr (.inr (.inl ⟨_, a, rfl⟩))) fun _ => ?_
  refine onlyPort_andThen (onlyPort_busSF fun a => .inr (.inr (.inr ⟨a, rfl⟩))) fun _ => ?_
  cases luxEval s.cfg s.derived (clearChannel r) (irChannel r)
  · exact onlyPort_fail _ _
  · exact onlyPort_done _ _

theorem proxBody_frame (s : State) : portFrame (proxTransaction s.params) s (proxBody s).2 := by
  refine onlyPort_andThen (onlyPort_memRead fun a => .inl ⟨a, rfl⟩) (fun r => ?_) s
  by_cases h : ambientSwamped s.derived.satAls (clearChannel r) = true
  · simpa [h] using onlyPort_fail _ _
  · simp only [h]
    refine onlyPort_andThen (onlyPort_memWrite fun a => .inr (.inl ⟨_, a, rfl⟩)) fun _ => ?_
    refine onlyPort_andThen (onlyPort_memWrite fun a => .inr (.inr (.inl ⟨_, a, rfl⟩))) fun _ => ?_
    exact onlyPort_andThen (onlyPort_busSF fun a => .inr (.inr (.inr ⟨a, rfl⟩))) fun _ => onlyPort_done _ _

theorem calReadings_onlyPort (p : Params) (n sum mx : Nat) :
    onlyPort (calTransaction p) (calReadings p.regData n sum mx) := by
  induction n generalizing sum mx with
  | zero => exact onlyPort_done _ _
  | succ n ih => exact onlyPort_andThen (onlyPort_memRead fun a => .inl ⟨a, rfl⟩) fun r => ih _ _

theorem calWriteBack_onlyPort (p : Params) (satProx : U16) (readings : Nat × Nat) :
    onlyPort (calTransaction p) (calWriteBack p satProx readings) := by
  simp only [calWriteBack]
  split
  · exact onlyPort_fail _ _
  · refine onlyPort_andThen (onlyPort_memWrite fun a => .inr (.inl ⟨_, a, rfl⟩)) fun _ => ?_
    exact onlyPort_andThen (onlyPort_memWrite fun a => .inr (.inr ⟨_, a, rfl⟩)) fun _ => onlyPort_done _ _

theorem calibration_frame (s : State) : portFrame (calTransaction s.params) s (calibration s).2 :=
  onlyPort_andThen (calReadings_onlyPort s.params _ _ _) (fun r => calWriteBack_onlyPort s.params _ r) s

/-- Everything the calibration's sampling loop does while the sensor answers: the readings, the running sum and maximum. -/
theorem calReadings_ok (addr : SensorAddr) (n sum mx : Nat) (s : State) (h : ∀ k < n, (s.answerAt k).ok = true) :
    calReadings addr n sum mx s
      = (.ok (((List.range n).map fun k => (proxChannel (answerBytes (s.answerAt k) 6)).toNat).foldl (· + ·) sum,
          ((List.range n).map fun k => (proxChannel (answerBytes (s.answerAt k) 6)).toNat).foldl max mx),
        s.afterTransactions ((List.range n).map fun k => readEvent .hostCommand addr 6 (s.answerAt k))) := by
  induction n generalizing sum mx s with
  | zero => simp [calReadings, Op.done]
  | succ n ih =>
    have h0 : (s.answerAt 0).ok = true := h 0 (by omega)
    have hr : ∀ k < n, ((s.record (readEvent .hostCommand addr 6 (s.answerAt 0))).answerAt k).ok = true := by
      intro k hk
      rw [State.answerAt_record]
      exact h (1 + k) (by omega)
    rw [calReadings, Op.andThen_ok (memRead_ok h0), ih _ _ _ hr]
    simp only [State.answerAt_record, List.range_succ_eq_map, List.map_cons, List.map_map, List.foldl_cons,
      Nat.add_comm 1]
    rw [State.record_eq, State.afterTransactions_append]
    rfl

/-! ## One turn -/

/-- Everything a step can do when no bare transaction is asked for: the environment's choice is taken. -/
theorem step_of_no_request {s : State} (h : s.portReq = none) : step s = runPick s.nextPick s.afterPick := by
  simp [step, takeTurn, h]

/-- Everything a step can do when a bare transaction is asked for. -/
theorem step_of_request {s : State} {req : PortReq} (h : s.portReq = some req) :
    step s = runPort req { s with portReq := none } := by
  simp [step, takeTurn, h]

/-- An operation that R85 guards answers the same through the guard where it is enabled. -/
theorem runIf_true {b : Bool} (h : b = true) (i : Instr) (s : State) : runIf b i s = exec i s := by
  simp [runIf, h]

theorem runIf_false {b : Bool} (h : b = false) (i : Instr) (s : State) : runIf b i s = .next s := by
  simp [runIf, h]

/-- A reading between the armed thresholds is no transition, and leaves the event and the pair (R81). -/
theorem proxCompare_no_transition {s : State} {raw : U16} (h : (proxCompare s raw).transition = false) :
    proxCompare s raw = ⟨s.pxEvent, s.pxArmHi, s.pxArmLo, false⟩ := by
  unfold proxCompare at h ⊢
  split at h
  · cases h
  · split at h
    · cases h
    · rename_i near far
      rw [if_neg near, if_neg far]

/-- A transition is a reading outside the armed pair (R81, log 24). -/
theorem proxCompare_transition_iff (s : State) (raw : U16) :
    (proxCompare s raw).transition = true ↔ s.pxArmHi.toNat < raw.toNat ∨ raw.toNat < s.pxArmLo.toNat := by
  unfold proxCompare
  by_cases near : raw.toNat > s.pxArmHi.toNat
  · simp [near]
  · by_cases far : raw.toNat < s.pxArmLo.toNat <;> simp [near, far]

/-- LuxEval's value never exceeds the maximum (R66, R69 step 7). -/
theorem luxOfScaled_le (num den sat gain cs is : Nat) : luxOfScaled num den sat gain cs is ≤ luxMax := by
  unfold luxOfScaled
  split
  · exact Nat.le_refl _
  · split
    · exact Nat.zero_le _
    · split
      · exact Nat.zero_le _
      · exact Nat.min_le_right _ _

end Sys2Proof.Machine
end

