-- ==== Sys2Proof/Laws/PerInstr.lean ====
section
/-! SUPPORT. The per-instruction family OpcodeByte: the first byte of an operation's encoding has the fixed bits that its
row of spec/opcode_table.json gives it. -/

namespace Sys2Proof.Laws

/-- `match` and `mask` of an operation's row; `none` for the rows whose match and mask are null (R51). -/
def tableRow : Instr → Option (Byte × Byte)
  | .lightOn => some (0x01, 0xFF)
  | .lightOff => some (0x02, 0xFF)
  | .readLight => some (0x03, 0xFF)
  | .calibrateLight => some (0x04, 0xFF)
  | .proxOn => some (0x05, 0xFF)
  | .proxOff => some (0x06, 0xFF)
  | .readProxInfo => some (0x07, 0xFF)
  | .readProxEvent => some (0x08, 0xFF)
  | .calibrateProx => some (0x09, 0xFF)
  | .getConfig => some (0x0A, 0xFF)
  | .setConfig _ => some (0x0B, 0xFF)
  | .triggerAls => some (0x0C, 0xFF)
  | .triggerProx => some (0x0D, 0xFF)
  | .sensorByte _ => some (0x80, 0xE0)
  | .sensorAuto _ _ => some (0xA0, 0xE0)
  | .sfProxClr => some (0xE5, 0xFF)
  | .sfAlsClr => some (0xE6, 0xFF)
  | .sfBothClr => some (0xE7, 0xFF)
  | .irq => none
  | .alsDeq => none
  | .alsExec => none
  | .proxDeq => none
  | .proxExec => none

/-- The first byte an encoded operation puts on its interface. -/
def firstByte : Request → Option Byte
  | .host bytes => bytes.head?
  | .sensor req => req.bus.head?

/-- The operation has an encoding exactly where its row has a match, and then its first byte meets match and mask. -/
def OpcodeByte.Statement (i : Instr) : Prop :=
  match tableRow i with
  | none => encode i = none
  | some (m, k) => ∃ r b, encode i = some r ∧ firstByte r = some b ∧ b &&& k = m

theorem byteModeCommand_mask (addr : SensorAddr) : byteModeCommand addr &&& 0xE0 = 0x80 := by
  revert addr
  decide

theorem autoModeCommand_mask (addr : SensorAddr) : autoModeCommand addr &&& 0xE0 = 0xA0 := by
  revert addr
  decide

theorem OpcodeByte.lightOn : OpcodeByte.Statement .lightOn := ⟨_, _, rfl, rfl, rfl⟩
theorem OpcodeByte.lightOff : OpcodeByte.Statement .lightOff := ⟨_, _, rfl, rfl, rfl⟩
theorem OpcodeByte.readLight : OpcodeByte.Statement .readLight := ⟨_, _, rfl, rfl, rfl⟩
theorem OpcodeByte.calibrateLight : OpcodeByte.Statement .calibrateLight := ⟨_, _, rfl, rfl, rfl⟩
theorem OpcodeByte.proxOn : OpcodeByte.Statement .proxOn := ⟨_, _, rfl, rfl, rfl⟩
theorem OpcodeByte.proxOff : OpcodeByte.Statement .proxOff := ⟨_, _, rfl, rfl, rfl⟩
theorem OpcodeByte.readProxInfo : OpcodeByte.Statement .readProxInfo := ⟨_, _, rfl, rfl, rfl⟩
theorem OpcodeByte.readProxEvent : OpcodeByte.Statement .readProxEvent := ⟨_, _, rfl, rfl, rfl⟩
theorem OpcodeByte.calibrateProx : OpcodeByte.Statement .calibrateProx := ⟨_, _, rfl, rfl, rfl⟩
theorem OpcodeByte.getConfig : OpcodeByte.Statement .getConfig := ⟨_, _, rfl, rfl, rfl⟩
theorem OpcodeByte.setConfig (record : DeviceConfig) : OpcodeByte.Statement (.setConfig record) := ⟨_, _, rfl, rfl, rfl⟩
theorem OpcodeByte.triggerAls : OpcodeByte.Statement .triggerAls := ⟨_, _, rfl, rfl, rfl⟩
theorem OpcodeByte.triggerProx : OpcodeByte.Statement .triggerProx := ⟨_, _, rfl, rfl, rfl⟩
theorem OpcodeByte.sensorByte (addr : SensorAddr) : OpcodeByte.Statement (.sensorByte addr) :=
  ⟨_, _, rfl, rfl, byteModeCommand_mask addr⟩
theorem OpcodeByte.sensorAuto (addr : SensorAddr) (xfer : Xfer) : OpcodeByte.Statement (.sensorAuto addr xfer) :=
  ⟨_, autoModeCommand addr, rfl, by cases xfer <;> rfl, autoModeCommand_mask addr⟩
theorem OpcodeByte.sfProxClr : OpcodeByte.Statement .sfProxClr := ⟨_, _, rfl, rfl, rfl⟩
theorem OpcodeByte.sfAlsClr : OpcodeByte.Statement .sfAlsClr := ⟨_, _, rfl, rfl, rfl⟩
theorem OpcodeByte.sfBothClr : OpcodeByte.Statement .sfBothClr := ⟨_, _, rfl, rfl, rfl⟩
theorem OpcodeByte.irq : OpcodeByte.Statement .irq := rfl
theorem OpcodeByte.alsDeq : OpcodeByte.Statement .alsDeq := rfl
theorem OpcodeByte.alsExec : OpcodeByte.Statement .alsExec := rfl
theorem OpcodeByte.proxDeq : OpcodeByte.Statement .proxDeq := rfl
theorem OpcodeByte.proxExec : OpcodeByte.Statement .proxExec := rfl

end Sys2Proof.Laws
end

