-- ==== Sys2Proof/Laws/Turns.lean ====
section
/-! SUPPORT. What one turn can do to the host port and to the pending and busy flags, said once for every choice of the
environment. -/

namespace Sys2Proof.Machine

/-! ## The operations -/

/-- A light pass ends with its busy flag clear, and leaves its pending flag, the port and the other pipeline's flags. -/
theorem lightPass_flags (s : State) :
    (lightPass s).alsBusy = false ∧ (lightPass s).alsPending = s.alsPending ∧ (lightPass s).hostCmd = s.hostCmd
      ∧ (lightPass s).proxBusy = s.proxBusy ∧ (lightPass s).proxPending = s.proxPending := by
  obtain ⟨es, frame, -⟩ := lightBody_frame s
  unfold lightPass
  split
  · split <;> rename_i body <;> rw [body] at frame <;> simp only at frame <;> subst frame
    · exact ⟨rfl, rfl, rfl, rfl, rfl⟩
    · exact ⟨rfl, rfl, rfl, rfl, rfl⟩
  · exact ⟨rfl, rfl, rfl, rfl, rfl⟩

/-- The same of a proximity pass. -/
theorem proxPass_flags (s : State) :
    (proxPass s).proxBusy = false ∧ (proxPass s).proxPending = s.proxPending ∧ (proxPass s).hostCmd = s.hostCmd
      ∧ (proxPass s).alsBusy = s.alsBusy ∧ (proxPass s).alsPending = s.alsPending := by
  obtain ⟨es, frame, -⟩ := proxBody_frame s
  unfold proxPass
  split
  · split <;> rename_i body <;> rw [body] at frame <;> simp only at frame <;> subst frame
    · exact ⟨rfl, rfl, rfl, rfl, rfl⟩
    · exact ⟨rfl, rfl, rfl, rfl, rfl⟩
  · exact ⟨rfl, rfl, rfl, rfl, rfl⟩

/-- IRQ clears no pending flag, and leaves the busy flags and the port. -/
theorem irqStep_flags (s : State) :
    (s.alsPending = true → (irqStep s).alsPending = true) ∧ (s.proxPending = true → (irqStep s).proxPending = true)
      ∧ (irqStep s).alsBusy = s.alsBusy ∧ (irqStep s).proxBusy = s.proxBusy ∧ (irqStep s).hostCmd = s.hostCmd := by
  unfold irqStep
  cases read : (({ s with dispState := .dispatching } : State).answerAt 0).ok
  · rw [memRead_err read]
    exact ⟨id, id, rfl, rfl, rfl⟩
  · rw [memRead_ok read]
    exact ⟨fun h => by simp [State.dispatch, h], fun h => by simp [State.dispatch, h], rfl, rfl, rfl⟩

/-- A host command frees the port, leaves the busy flags and clears no pending flag. -/
def hostFrame (s t : State) : Prop :=
  t.hostCmd = none ∧ t.alsBusy = s.alsBusy ∧ t.proxBusy = s.proxBusy
    ∧ (s.alsPending = true → t.alsPending = true) ∧ (s.proxPending = true → t.proxPending = true)

theorem plainCommand_hostFrame {op : Byte} {i : Instr} (h : plainCommand op = some i) (s : State) :
    ∃ t, exec i s = .next t ∧ hostFrame s t := by
  unfold plainCommand at h
  split at h <;> cases h
  case h_1 =>
    change ∃ t, execLightOn s = .next t ∧ hostFrame s t
    unfold execLightOn
    split <;> exact ⟨_, rfl, rfl, rfl, rfl, id, id⟩
  case h_3 =>
    change ∃ t, execReadLight s = .next t ∧ hostFrame s t
    unfold execReadLight
    split <;> exact ⟨_, rfl, rfl, rfl, rfl, id, id⟩
  case h_4 =>
    change ∃ t, execCalibrateLight s = .next t ∧ hostFrame s t
    unfold execCalibrateLight
    split <;> exact ⟨_, rfl, rfl, rfl, rfl, id, id⟩
  case h_5 =>
    change ∃ t, execProxOn s = .next t ∧ hostFrame s t
    unfold execProxOn
    split <;> exact ⟨_, rfl, rfl, rfl, rfl, id, id⟩
  case h_9 =>
    obtain ⟨es, frame, -⟩ := calibration_frame s
    change ∃ t, execCalibrateProx s = .next t ∧ hostFrame s t
    unfold execCalibrateProx
    split
    · split <;> rename_i result <;> rw [result] at frame <;> simp only at frame <;> subst frame
      · exact ⟨_, rfl, rfl, rfl, rfl, id, id⟩
      · exact ⟨_, rfl, rfl, rfl, rfl, id, id⟩
    · exact ⟨_, rfl, rfl, rfl, rfl, id, id⟩
  case h_11 => exact ⟨_, rfl, rfl, rfl, rfl, fun _ => rfl, id⟩
  case h_12 => exact ⟨_, rfl, rfl, rfl, rfl, id, fun _ => rfl⟩
  all_goals exact ⟨_, rfl, rfl, rfl, rfl, id, id⟩

theorem setConfig_hostFrame (record : DeviceConfig) (s : State) :
    ∃ t, exec (.setConfig record) s = .next t ∧ hostFrame s t := by
  change ∃ t, execSetConfig record s = .next t ∧ hostFrame s t
  unfold execSetConfig
  split
  · exact ⟨_, rfl, rfl, rfl, rfl, id, id⟩
  · exact ⟨_, rfl, rfl, rfl, rfl, id, id⟩

/-- Whatever bytes stand on the port, running them answers a next state. -/
theorem runCommand_hostFrame (bytes : List Byte) (s : State) :
    ∃ t, runCommand bytes s = .next t ∧ hostFrame s t := by
  unfold runCommand
  split
  · rename_i i decoded
    unfold decodeHost at decoded
    split at decoded
    · cases decoded
    · split at decoded
      · split at decoded <;> cases decoded
        exact setConfig_hostFrame _ s
      · split at decoded
        · cases decoded
        · rename_i plain
          split at decoded <;> cases decoded
          exact plainCommand_hostFrame plain s
  · exact ⟨_, rfl, rfl, rfl, rfl, id, id⟩

/-! ## One turn -/

/-- The port after a turn. -/
def turnPort (p : Pick) (s : State) : Option (List Byte) :=
  match p with
  | .issue command => some (s.hostCmd.getD command)
  | .host | .reset => none
  | .signal | .alsDeq | .alsExec | .proxDeq | .proxExec => s.hostCmd

/-- A pipeline's busy flag after a turn: its own dequeue sets it where a pass is queued, its own execution clears it. -/
def turnBusy (dequeue execute p : Pick) (pending busy : Bool) : Bool :=
  if p = dequeue then pending || busy
  else if p = execute ∨ p = .reset then false
  else busy

/-- What a turn may do to a pipeline's pending flag: its own dequeue clears it where no pass is in flight, a reset clears
it, a signal and an outstanding command may set it, and nothing else writes it. -/
def turnPending (dequeue p : Pick) (port : Option (List Byte)) (pending busy after : Bool) : Prop :=
  if p = dequeue then after = (pending && busy)
  else if p = .reset then after = false
  else (pending = true → after = true) ∧ ((p = .signal ∨ p = .host ∧ port.isSome = true) ∨ after = pending)

/-- What a turn does to the port and to the four flags. -/
structure TurnEffect (p : Pick) (s t : State) : Prop where
  port : t.hostCmd = turnPort p s
  lightBusy : t.alsBusy = turnBusy .alsDeq .alsExec p s.alsPending s.alsBusy
  proxBusy : t.proxBusy = turnBusy .proxDeq .proxExec p s.proxPending s.proxBusy
  lightPending : turnPending .alsDeq p s.hostCmd s.alsPending s.alsBusy t.alsPending
  proxPending : turnPending .proxDeq p s.hostCmd s.proxPending s.proxBusy t.proxPending

/-- Every turn answers a next state, and this is all it can do to the port and the flags. -/
theorem runPick_effect (p : Pick) (s : State) : ∃ t, runPick p s = .next t ∧ TurnEffect p s t := by
  cases p
  case issue command =>
    refine ⟨_, rfl, ?_⟩
    unfold State.issueCommand
    split <;> rename_i port <;> constructor <;> simp [turnPort, turnBusy, turnPending, port]
  case host =>
    unfold runPick runHost
    cases port : s.hostCmd
    · exact ⟨s, rfl, by constructor <;> simp [turnPort, turnBusy, turnPending, port]⟩
    · obtain ⟨t, run, free, b1, b2, p1, p2⟩ := runCommand_hostFrame _ s
      exact ⟨t, run, by constructor <;> simp [turnPort, turnBusy, turnPending, port, free, b1, b2] <;> assumption⟩
  case signal =>
    unfold runPick runIf
    cases signalAccepted s
    · exact ⟨s, rfl, by constructor <;> simp [turnPort, turnBusy, turnPending]⟩
    · obtain ⟨p1, p2, b1, b2, port⟩ := irqStep_flags s
      exact ⟨irqStep s, rfl, by constructor <;> simp [turnPort, turnBusy, turnPending, port, b1, b2] <;> assumption⟩
  case alsDeq =>
    unfold runPick
    cases enabled : alsDeqEnabled s
    · refine ⟨s, runIf_false rfl _ _, ?_⟩
      simp only [alsDeqEnabled, Bool.and_eq_false_iff, Bool.not_eq_false'] at enabled
      constructor <;> rcases enabled with h | h <;> simp [turnPort, turnBusy, turnPending, h]
    · refine ⟨_, (runIf_true rfl _ _).trans (if_pos enabled), ?_⟩
      simp only [alsDeqEnabled, Bool.and_eq_true, Bool.not_eq_true'] at enabled
      constructor <;> simp [turnPort, turnBusy, turnPending, enabled.1, enabled.2]
  case proxDeq =>
    unfold runPick
    cases enabled : proxDeqEnabled s
    · refine ⟨s, runIf_false rfl _ _, ?_⟩
      simp only [proxDeqEnabled, Bool.and_eq_false_iff, Bool.not_eq_false'] at enabled
      constructor <;> rcases enabled with h | h <;> simp [turnPort, turnBusy, turnPending, h]
    · refine ⟨_, (runIf_true rfl _ _).trans (if_pos enabled), ?_⟩
      simp only [proxDeqEnabled, Bool.and_eq_true, Bool.not_eq_true'] at enabled
      constructor <;> simp [turnPort, turnBusy, turnPending, enabled.1, enabled.2]
  case alsExec =>
    unfold runPick
    cases enabled : alsExecEnabled s
    · refine ⟨s, runIf_false rfl _ _, ?_⟩
      constructor <;> simp_all [turnPort, turnBusy, turnPending, alsExecEnabled]
    · obtain ⟨b, p, port, b2, p2⟩ := lightPass_flags s
      refine ⟨_, (runIf_true rfl _ _).trans (if_pos enabled), ?_⟩
      constructor <;> simp [turnPort, turnBusy, turnPending, b, p, port, b2, p2]
  case proxExec =>
    unfold runPick
    cases enabled : proxExecEnabled s
    · refine ⟨s, runIf_false rfl _ _, ?_⟩
      constructor <;> simp_all [turnPort, turnBusy, turnPending, proxExecEnabled]
    · obtain ⟨b, p, port, b2, p2⟩ := proxPass_flags s
      refine ⟨_, (runIf_true rfl _ _).trans (if_pos enabled), ?_⟩
      constructor <;> simp [turnPort, turnBusy, turnPending, b, p, port, b2, p2]
  case reset => exact ⟨_, rfl, by constructor <;> rfl⟩

end Sys2Proof.Machine
end

