-- ==== Sys2Proof/Tests/Slice0.lean ====
section
/-! SUPPORT. Tests on single steps, with results from the spec's own vectors (95_test_vectors.md, R96) or worked out by hand
from its rules, and for each obligation with hypotheses a concrete case that meets them together. -/

namespace Sys2Proof.Tests

open Sys2Proof Sys2Proof.Machine

/-! ## Helpers -/

/-- What a test looks at in a next state; `none` for a fault or a refusal. -/
def seen {α : Type} (o : Host.Outcome State Fault Refusal) (f : State → α) : Option α :=
  match o with
  | .next t => some (f t)
  | .fault _ => none
  | .refused _ => none

/-- A sensor answer `ok` with these bytes. -/
def okWith (bytes : List Byte) : Answer := ⟨true, BitVec.ofNat 48 (natLe bytes)⟩

/-- A sensor answer `ok` with no bytes. -/
def okay : Answer := ⟨true, 0⟩

/-- A sensor answer `err`. -/
def failed : Answer := ⟨false, 0⟩

/-- The state after reset with the environment's next choices and the sensor's next answers. -/
def start (picks : List Pick) (answers : List Answer) : State :=
  { State.reset with schedule := picks, answers := answers }

/-- Light mode on, a light pass in flight (R96 (a)). -/
def lightReady (answers : List Answer) : State :=
  { start [] answers with alsEn := true, alsBusy := true, hist := ⟨some 20, some 30, none⟩ }

/-- Proximity mode on, a proximity pass in flight, armed as configured (R96 (b)). -/
def proxReady (answers : List Answer) : State :=
  { start [] answers with proxEn := true, proxBusy := true }

/-- `n` successful readings of one proximity value, then two successful writes. -/
def readings (n : Nat) (value : Nat) : List Answer :=
  List.replicate n ⟨true, BitVec.ofNat 48 (value <<< 32)⟩ ++ [okay, okay]

/-- The last response on the host port. -/
def lastResponse (s : State) : Option (List Byte) := s.responses.getLast?

/-- Command byte, data and outcome of each entry of the event history. -/
def port (s : State) : List (Byte × List Byte × Bool) := s.history.map fun e => (e.cmd, e.data, e.ok)

/-- The 24 bytes of TEST_CONFIG (R124). -/
def testRecord : List Byte :=
  [0xA0, 0x86, 0x01, 0x00, 0x32, 0x00, 0x01, 0x00, 0x00, 0x02, 0x03, 0x01, 0x00, 0x1C, 0x25, 0x28, 0x23, 0xEE, 0x00,
    0xEE, 0x00, 0x00, 0x08, 0x00]

/-! ## WellFormed -/

/-- R38: a six-byte read at 0x1A ends at 0x1F. -/
theorem test_well_formed_at_the_end : (Instr.sensorAuto 0x1A .read6).wellFormed = true := by decide

/-- R38: at 0x1B it would run past 0x1F. -/
theorem test_ill_formed_read6 : (Instr.sensorAuto 0x1B .read6).wellFormed = false := by decide

theorem test_ill_formed_read4 : (Instr.sensorAuto 0x1D .read4).wellFormed = false := by decide

theorem test_ill_formed_write : (Instr.sensorAuto 0x1F (.write 5)).wellFormed = false := by decide

/-! ## Decoding: every constructor's word, written out from R44 and R52 to R55 -/

theorem test_decode_light_on : decodeTableWord 8 0b00000001 = some .lightOn := by decide
theorem test_decode_light_off : decodeTableWord 8 0b00000010 = some .lightOff := by decide
theorem test_decode_read_light : decodeTableWord 8 0b00000011 = some .readLight := by decide
theorem test_decode_calibrate_light : decodeTableWord 8 0b00000100 = some .calibrateLight := by decide
theorem test_decode_prox_on : decodeTableWord 8 0b00000101 = some .proxOn := by decide
theorem test_decode_prox_off : decodeTableWord 8 0b00000110 = some .proxOff := by decide
theorem test_decode_read_prox_info : decodeTableWord 8 0b00000111 = some .readProxInfo := by decide
theorem test_decode_read_prox_event : decodeTableWord 8 0b00001000 = some .readProxEvent := by decide
theorem test_decode_calibrate_prox : decodeTableWord 8 0b00001001 = some .calibrateProx := by decide
theorem test_decode_get_config : decodeTableWord 8 0b00001010 = some .getConfig := by decide
theorem test_decode_trigger_als : decodeTableWord 8 0b00001100 = some .triggerAls := by decide
theorem test_decode_trigger_prox : decodeTableWord 8 0b00001101 = some .triggerProx := by decide

/-- R124 gives the record's bytes, R49 their places. -/
theorem test_decode_set_config :
    (decodeHost (0b00001011 :: testRecord)).toOption = some (.setConfig Config.testConfig) := by decide

/-- R54: type 01 at 0x14, a 4-byte read. -/
theorem test_decode_auto_read4 : (decodeSensor ⟨[0b10110100], 4⟩).toOption = some (.sensorAuto 0x14 .read4) := by decide

theorem test_decode_auto_read6 : (decodeSensor ⟨[0b10110100], 6⟩).toOption = some (.sensorAuto 0x14 .read6) := by decide

/-- R54: the word write of 800 at 0x04 is A4 20 03. -/
theorem test_decode_auto_write :
    (decodeSensor ⟨[0b10100100, 0x20, 0x03], 2⟩).toOption = some (.sensorAuto 0x04 (.write 800)) := by decide

/-- R53: the status read at 0x13. -/
theorem test_decode_sensor_byte : decodeTableWord 8 0b10010011 = some (.sensorByte 0x13) := by decide
theorem test_decode_prox_clear : decodeTableWord 8 0b11100101 = some .sfProxClr := by decide
theorem test_decode_als_clear : decodeTableWord 8 0b11100110 = some .sfAlsClr := by decide
theorem test_decode_both_clear : decodeTableWord 8 0b11100111 = some .sfBothClr := by decide

/-! ## Decoding: refusals by name (R45, R56) -/

theorem test_refuse_opcode_zero : decodeHost [0x00] = .error .reservedOpcode := by rfl
theorem test_refuse_opcode_0e : decodeHost [0x0E] = .error .reservedOpcode := by rfl
theorem test_refuse_long_command : decodeHost [0x03, 0x00] = .error .wrongLength := by rfl
theorem test_refuse_short_record : decodeHost [0x0B, 0x01, 0x02] = .error .wrongLength := by rfl
theorem test_refuse_empty_command : decodeHost [] = .error .emptyCommand := by rfl
theorem test_refuse_no_select_bit : decodeSensor ⟨[0x13], 1⟩ = .error .noSelectBit := by rfl
theorem test_refuse_reserved_type : decodeSensor ⟨[0xC5], 0⟩ = .error .reservedType := by rfl
theorem test_refuse_function_4 : decodeSensor ⟨[0xE4], 0⟩ = .error .unassignedFunction := by rfl
theorem test_refuse_function_8 : decodeSensor ⟨[0xE8], 0⟩ = .error .unassignedFunction := by rfl
theorem test_refuse_count : decodeSensor ⟨[0xB4], 5⟩ = .error .wrongCount := by rfl

/-! ## A table word runs as the first instruction after reset -/

theorem test_first_step_host :
    seen (step (State.reset.withFetchWord 8 0x0A)) lastResponse = some (some (0x00 :: testRecord)) := by
  decide +kernel

theorem test_first_step_set_config :
    seen (step (State.reset.withFetchWord 200 (natLe (0x0B :: testRecord)))) lastResponse = some (some [0x00]) := by
  decide +kernel

theorem test_first_step_sensor :
    seen (step ((start [] [okWith [0x10]]).withFetchWord 8 0x93)) port = some [(0x93, [0x10], true)] := by decide

/-! ## Host commands (95_test_vectors.md parts 2.1, 2.6, 2.8) -/

/-- R97: the example. -/
theorem test_light_on_restarts :
    seen (exec .lightOn { State.reset with hist := ⟨some 5, some 6, some 7⟩, luxPub := some 6 })
      (fun t => (t.alsEn, t.hist, t.luxPub, lastResponse t)) = some (true, ⟨none, none, none⟩, none, some [0x00]) := by
  decide

theorem test_light_on_keeps :
    seen (exec .lightOn { State.reset with alsEn := true, hist := ⟨some 848000, none, none⟩ }) (fun t => t.hist)
      = some ⟨some 848000, none, none⟩ := by decide

theorem test_light_off :
    seen (exec .lightOff { State.reset with alsEn := true, luxPub := some 848000 }) (fun t => (t.alsEn, t.luxPub))
      = some (false, some 848000) := by decide

theorem test_read_light :
    seen (exec .readLight { State.reset with luxPub := some 848000 }) lastResponse
      = some (some [0x00, 0x80, 0xF0, 0x0C, 0x00]) := by decide

theorem test_read_light_no_data : seen (exec .readLight State.reset) lastResponse = some (some [0x02]) := by decide

/-- Part 2.8: 782 gives 65 473, and 781 does not fit. -/
theorem test_calibrate_light_782 :
    seen (exec .calibrateLight { State.reset with alsEn := true, luxPub := some 782 }) (fun t => t.cfg.gainTrim)
      = some 65473 := by decide

theorem test_calibrate_light_781 :
    seen (exec .calibrateLight { State.reset with alsEn := true, luxPub := some 781 })
      (fun t => (lastResponse t, t.cfg.gainTrim)) = some (some [0x04], 512) := by decide

theorem test_prox_on :
    seen (exec .proxOn { State.reset with pxArmHi := 1, pxEvent := true, pxInfoRaw := 7 })
      (fun t => (t.proxEn, t.pxArmHi, t.pxArmLo, t.pxEvent, t.pxInfoRaw)) = some (true, 9500, 9000, false, 0) := by decide

theorem test_prox_off :
    seen (exec .proxOff { State.reset with proxEn := true, pxEvent := true }) (fun t => (t.proxEn, t.pxEvent))
      = some (false, true) := by decide

theorem test_read_prox_info :
    seen (exec .readProxInfo { State.reset with pxInfoClear := 1000, pxInfoRaw := 9501, pxEvent := true }) lastResponse
      = some (some [0x00, 0xE8, 0x03, 0x1D, 0x25, 0x01]) := by decide

theorem test_read_prox_event :
    seen (exec .readProxEvent { State.reset with pxEvent := true }) lastResponse
      = some (some [0x00, 0x01, 0x00, 0x00, 0x00]) := by decide

/-- Part 2.6: `lo` equal to `F12` keeps the mean-based pair. -/
theorem test_calibrate_prox_at_the_floor :
    seen (exec .calibrateProx (proxReady (readings 20 6864)))
      (fun t => (lastResponse t, t.cfg.proxHi, t.pxArmLo, t.pxCalMax, t.history.length))
      = some (some [0x00], 8364, 7864, 6864, 22) := by
  decide +kernel

theorem test_calibrate_prox_out_of_range :
    seen (exec .calibrateProx (proxReady (readings 20 64036)))
      (fun t => (lastResponse t, t.cfg.proxHi, t.pxCalMax, t.history.length)) = some (some [0x04], 9500, 0, 20) := by
  decide +kernel

theorem test_get_config : seen (exec .getConfig State.reset) lastResponse = some (some (0x00 :: testRecord)) := by
  decide +kernel

/-- R61: the example. -/
theorem test_set_config :
    seen (exec (.setConfig { Config.testConfig with alsTime := 620, proxAdcTime := 255 }) State.reset)
      (fun t => (t.cfg.alsTime, t.derived)) = some (600, ⟨1, 12, 65535, 18432, 1024⟩) := by decide +kernel

theorem test_set_config_rejected :
    seen (exec (.setConfig { Config.testConfig with alsTime := 620, proxLo := 9500 }) State.reset)
      (fun t => (lastResponse t, t.cfg.alsTime)) = some (some [0x04], 50) := by decide

theorem test_trigger_als :
    seen (exec .triggerAls { State.reset with alsBusy := true }) (fun t => (t.alsPending, t.alsBusy, t.proxPending))
      = some (true, true, false) := by decide

theorem test_trigger_prox :
    seen (exec .triggerProx State.reset) (fun t => (t.alsPending, t.proxPending)) = some (false, true) := by decide

/-! ## Sensor rows (R53 to R55) -/

theorem test_sensor_byte :
    seen (exec (.sensorByte 0x13) (start [] [okWith [0x30]])) port = some [(0x93, [0x30], true)] := by decide

theorem test_sensor_auto_write :
    seen (exec (.sensorAuto 0x06 (.write 1200)) (start [] [okay])) port = some [(0xA6, [0xB0, 0x04], true)] := by decide

theorem test_sensor_auto_past_the_end :
    exec (.sensorAuto 0x1F (.write 1)) (start [] [okay]) = .fault .beyondSensorSpace := by rfl

theorem test_sf_prox_clr : seen (exec .sfProxClr (start [] [okay])) port = some [(0xE5, [], true)] := by decide
theorem test_sf_als_clr : seen (exec .sfAlsClr (start [] [failed])) port = some [(0xE6, [], false)] := by decide
theorem test_sf_both_clr : seen (exec .sfBothClr (start [] [okay])) port = some [(0xE7, [], true)] := by decide

/-! ## Internal operations (part 2.7, R96) -/

theorem test_irq_both_bits :
    seen (exec .irq (start [] [okWith [0x30]])) (fun t => (t.alsPending, t.proxPending, t.dispLastStatus))
        = some (false, true, 0x00)
      ∧ seen (exec .irq (start [] [okWith [0x30]])) port = some [(0x93, [0x30], true)] := by decide

theorem test_irq_failed :
    seen (exec .irq (start [] [failed])) (fun t => (t.alsPending, t.proxPending, t.dispLastStatus, t.dispState))
      = some (false, false, 0x01, .idle) := by decide

theorem test_als_deq :
    seen (exec .alsDeq { State.reset with alsPending := true }) (fun t => (t.alsPending, t.alsBusy))
      = some (false, true) := by decide

theorem test_prox_deq :
    seen (exec .proxDeq { State.reset with proxPending := true, alsBusy := true })
      (fun t => (t.proxPending, t.proxBusy, t.alsBusy)) = some (false, true, true) := by decide

/-- R96 (a). -/
theorem test_als_exec :
    seen (exec .alsExec (lightReady [okWith [0xE8, 0x03, 0x64, 0x00], okay, okay, okay]))
        (fun t => (t.hist, t.luxPub, t.alsBusy, t.alsLastStatus))
        = some (⟨some 848000, some 20, some 30⟩, some 30, false, 0x00)
      ∧ seen (exec .alsExec (lightReady [okWith [0xE8, 0x03, 0x64, 0x00], okay, okay, okay])) port
        = some [(0xB4, [0xE8, 0x03, 0x64, 0x00], true), (0xA4, [0x20, 0x03], true), (0xA6, [0xB0, 0x04], true),
            (0xE6, [], true)] := by decide +kernel

/-- Part 2.7: a bad selector raises after the four transactions. -/
theorem test_als_exec_bad_selector :
    seen (exec .alsExec
        { lightReady [okWith [0xE8, 0x03, 0x64, 0x00], okay, okay, okay] with
          cfg := { Config.testConfig with gain := 7 } })
      (fun t => (t.alsLastStatus, t.luxPub, t.history.length)) = some (0x04, none, 4) := by
  decide +kernel

/-- R96 (b). -/
theorem test_prox_exec :
    seen (exec .proxExec (proxReady [okWith [0xE8, 0x03, 0x00, 0x00, 0x80, 0x25], okay, okay, okay]))
        (fun t => (t.pxEvent, t.pxArmHi, t.pxArmLo, t.pxInfoClear, t.pxInfoRaw)) = some (true, 65535, 9000, 1000, 9600)
      ∧ seen (exec .proxExec (proxReady [okWith [0xE8, 0x03, 0x00, 0x00, 0x80, 0x25], okay, okay, okay])) port
        = some [(0xB4, [0xE8, 0x03, 0x00, 0x00, 0x80, 0x25], true), (0xA8, [0x28, 0x23], true),
            (0xAA, [0xFF, 0xFF], true), (0xE5, [], true)] := by decide +kernel

/-- R96 (c). -/
theorem test_prox_exec_swamped :
    seen (exec .proxExec (proxReady [okWith [0x00, 0x48, 0x00, 0x00, 0x80, 0x25]]))
      (fun t => (t.proxLastStatus, t.pxEvent, t.history.length)) = some (0x02, false, 1) := by
  decide +kernel

/-! ## Functions at their boundaries (parts 2.1 to 2.6) -/

theorem test_norm_als_time :
    ([0, 39, 74, 75, 124, 125, 624, 625, 999, 65535] : List U16).map normAlsTime
      = [50, 50, 50, 100, 100, 150, 600, 650, 650, 650] := by decide

theorem test_lux_at_row_boundaries :
    ([299, 300, 379, 380, 449, 450, 539, 540, 1000] : List U16).map
        (fun c1 => (luxEval Config.testConfig (derive Config.testConfig) 1000 c1).toOption)
      = [some 465920, some 464362, some 239242, some 236392, some 137741, some 136312, some 64800, some 64000, some 0] := by
  decide +kernel

theorem test_lux_saturation :
    ([14999, 15000] : List U16).map (fun c0 => (luxEval Config.testConfig (derive Config.testConfig) c0 0).toOption)
      = [some 15598960, some 65535000] := by decide

theorem test_als_window :
    ([4, 5, 54613, 54614, 65535] : List U16).map (fun c => (alsWindowLo c, alsWindowHi c))
      = [(4, 4), (4, 6), (43691, 65535), (43692, 65535), (52428, 65535)] := by decide

theorem test_median :
    median3 5 5 9 = 5 ∧ median3 7 7 7 = 7 ∧ median3 0 65535000 0 = 0 ∧ median3 30 10 20 = 20 := by decide

/-! ## Trace lines (R58) -/

/-- The brace list of TEST_CONFIG, its fields in another order than the record's. -/
theorem test_brace_list :
    asmRecord [("als_time", 50), ("cal_target", 100000), ("scale", 1), ("gain_trim", 512), ("filter_depth", 3),
        ("filter_count", 1), ("gain", 0), ("prox_hi", 9500), ("prox_lo", 9000), ("prox_int_time", 238),
        ("prox_adc_time", 0), ("prox_wait_time", 238), ("prox_intr_filter", 0), ("prox_config", 0), ("prox_pulse_cnt", 8),
        ("prox_gain", 0)] = some Config.testConfig := by decide +kernel

/-- A unit operation's line asks for its turn, and an answer's line supplies the answer. -/
theorem test_trace_lines :
    (loadTrace [] [.op "IRQ" .none, .answerOk [0x10]] State.reset).map (fun s => (s.schedule, s.answers))
      = some ([.signal], [okWith [0x10]]) := by decide +kernel

/-! ## Each obligation's hypotheses are met

One theorem for each obligation with hypotheses, at a boundary value for each clause. -/

theorem test_witness_DecodeOfEncodeIsTheOperation :
    (Instr.sensorAuto 0x1A .read6).wellFormed = true ∧ encode (.sensorAuto 0x1A .read6) = some (.sensor ⟨[0xBA], 6⟩) := by
  decide

theorem test_witness_EncodeOfDecodeIsTheRequest :
    decode (.sensor ⟨[0xA4, 0x20, 0x03], 2⟩) = .ok (.sensorAuto 4 (.write 800)) := by rfl

theorem test_witness_ConfigRecordLayout : testRecord.length = 24 := by decide

/-- Each side of the equivalence, at its boundaries. -/
theorem test_witness_HostDecoderRefusesExactlyIllegalCommands :
    decodeHost [0x0D] = .ok .triggerProx ∧ ¬ illegalCommand 0x0D [] ∧ illegalCommand 0x0E [] ∧ illegalCommand 0x00 []
      ∧ illegalCommand 0x0D [0x00] ∧ ¬ illegalCommand 0x0B testRecord ∧ illegalCommand 0x0B (0x00 :: testRecord) := by
  refine ⟨rfl, ?_⟩
  simp [illegalCommand, testRecord]

theorem test_witness_IllegalCommandCompletesWithStatusFive :
    (start [.host] []).portReq = none ∧ (start [.host] []).nextPick = .host
      ∧ { start [.host] [] with hostCmd := some [0x03, 0x00] }.hostCmd = some [0x03, 0x00] ∧ illegalCommand 0x03 [0x00] := by
  refine ⟨rfl, rfl, rfl, ?_⟩
  simp [illegalCommand]

theorem test_witness_MnemonicLineLoadsItsCommand : asmCommand "TRIGGER_PROX" = some .triggerProx := by decide

theorem test_witness_StepRunsDecodedHostCommand :
    (start [.host] []).portReq = none ∧ (start [.host] []).nextPick = .host
      ∧ { start [.host] [] with hostCmd := some [0x01] }.hostCmd = some [0x01] ∧ decodeHost [0x01] = .ok .lightOn :=
  ⟨rfl, rfl, rfl, rfl⟩

/-- Each clause's choice, in a state where the operation is enabled and in one where it is not. -/
theorem test_witness_StepTakesEnabledOperations :
    State.reset.portReq = none
      ∧ { start [.signal] [] with dispState := .dispatching }.nextPick = .signal
      ∧ { start [.alsDeq] [] with alsPending := true }.nextPick = .alsDeq
      ∧ alsDeqEnabled { start [.alsDeq] [] with alsPending := true } = true
      ∧ { start [.proxDeq] [] with proxPending := true }.nextPick = .proxDeq
      ∧ proxDeqEnabled { start [.proxDeq] [] with proxPending := true } = true
      ∧ (start [.signal] []).nextPick = .signal ∧ (start [.signal] []).dispState = .idle
      ∧ (start [.alsDeq] []).nextPick = .alsDeq ∧ (start [.alsDeq] []).alsPending = false
      ∧ (start [.alsExec] []).nextPick = .alsExec ∧ (lightReady []).alsBusy = true
      ∧ (start [.proxDeq] []).nextPick = .proxDeq ∧ (start [.proxDeq] []).proxPending = false
      ∧ (start [.proxExec] []).nextPick = .proxExec ∧ (proxReady []).proxBusy = true
      ∧ (start [.issue [0x01]] []).nextPick = .issue [0x01] := by
  decide +kernel

/-- A dequeue not enabled takes no operation; a second host command changes nothing. -/
theorem test_idle_choices :
    seen (step (start [.alsDeq] [])) (fun t => (t.alsBusy, t.history.length)) = some (false, 0)
      ∧ seen (step { start [.issue [0x02]] [] with hostCmd := some [0x01] }) (fun t => t.hostCmd) = some (some [0x01]) := by
  decide

theorem test_witness_BareTransactionRunsOrIsRefused :
    { State.reset with portReq := some ⟨[0x93], 1⟩ }.portReq = some ⟨[0x93], 1⟩
      ∧ decodeSensor ⟨[0x93], 1⟩ = .ok (.sensorByte 0x13) ∧ neverEmittedCommand 0xE4 ∧ neverEmittedCommand 0xC0
      ∧ neverEmittedCommand 0x7F := by
  refine ⟨rfl, rfl, ?_⟩
  simp [neverEmittedCommand, commandType, commandField]

theorem test_never_emitted_is_refused :
    step { State.reset with portReq := some ⟨[0xE4], 0⟩ } = .refused .neverEmitted := by rfl

theorem test_witness_StepNeverStops : State.reset.portReq = none := by decide

theorem test_witness_OnlyOwnTransactionsAreIssued :
    (start [.signal] [okWith [0x10]]).portReq = none
      ∧ seen (step (start [.signal] [okWith [0x10]])) port = some [(0x93, [0x10], true)] := by decide

theorem test_witness_EmittedCommandBytesAreLegal :
    seen (step { start [] [okay] with portReq := some ⟨[0xE7], 0⟩ }) port = some [(0xE7, [], true)] := by decide

theorem test_witness_ResetEventRestoresEveryRegister :
    (start [.reset] []).portReq = none ∧ (start [.reset] []).nextPick = .reset := by decide

theorem test_witness_StepKeepsInvariants :
    Inv (start [.host] []) ∧ seen (step (start [.host] [])) (fun t => t.alsEn) = some false := by
  refine ⟨?_, by decide⟩
  constructor <;> decide

theorem test_witness_DerivedRegistersFollowTheConfiguration :
    validAlsTime 50 = true ∧ validAlsTime 650 = true ∧ validAlsTime Config.testConfig.alsTime = true := by decide

/-- Both sides of the threshold check, at `lo = hi` and just under. -/
theorem test_witness_SetConfigCommitsOrRejects :
    (0x0B :: testRecord).tail.length = 24
      ∧ seen (exec (.setConfig { Config.testConfig with proxLo := 9500 }) State.reset) lastResponse = some (some [0x04])
      ∧ seen (exec (.setConfig { Config.testConfig with proxLo := 9499 }) State.reset) lastResponse = some (some [0x00]) := by
  decide

theorem test_witness_SetConfigOfGetConfigChangesNothing :
    validAlsTime State.reset.cfg.alsTime = true ∧ thresholdsOrdered State.reset.cfg = true
      ∧ State.reset.derived = derive State.reset.cfg := by decide

theorem test_witness_OnlyThreeCommandsWriteTheConfiguration :
    seen (exec .calibrateLight { State.reset with alsEn := true, luxPub := some 1000 }) (fun t => t.cfg.gainTrim)
        = some 51200
      ∧ seen (exec .calibrateProx (proxReady (readings 20 8000))) (fun t => (t.cfg.proxHi, t.cfg.proxLo)) = some (9500, 9000)
      ∧ seen (exec .lightOn State.reset) (fun t => t.cfg) = some Config.testConfig := by
  decide +kernel

theorem test_witness_StoredOnlyFieldsInfluenceNothing :
    Instr.lightOn ≠ .getConfig
      ∧ State.reset.blankStored = { State.reset with cfg := { Config.testConfig with gainTrim := 7 } }.blankStored
      ∧ State.reset ≠ { State.reset with cfg := { Config.testConfig with gainTrim := 7 } } := by decide

/-- A ratio on each side of each threshold, from channels of 16 bits. -/
theorem test_witness_LuxEvalFollowsItsSteps :
    ([9829, 9830, 12451, 12452, 14745, 14746, 17694, 17695] : List Nat).map (fun is => (is <<< 15) / 32768)
        = [9829, 9830, 12451, 12452, 14745, 14746, 17694, 17695]
      ∧ ([9829, 9830, 12451, 12452, 14745, 14746, 17694, 17695] : List Nat).map
          (fun is => (selectRow ratioTable (channelRatio 32768 is)).map fun row => row.clearCoeff)
        = [some 8320, some 10554, some 10554, some 6234, some 6234, some 3968, some 3968, none] := by decide

theorem test_witness_LuxDifferenceIsPositive :
    0 < 32768 ∧ 17694 ≤ 32768 ∧ selectRow ratioTable (channelRatio 32768 17694) = some ⟨17695, 3968, 6400⟩ := by decide

theorem test_witness_UnsaturatedLuxIsBounded :
    validAlsTime Config.testConfig.alsTime = true
      ∧ max (14999#16).toNat (0#16).toNat * Config.testConfig.scale.toNat < (derive Config.testConfig).ltsSat.toNat
      ∧ (luxEval Config.testConfig (derive Config.testConfig) 14999 0).toOption = some 15598960
      ∧ { Config.testConfig with alsTime := 200 }.scale = 1 := by decide

theorem test_witness_LuxRaisesOrMeetsItsLimits :
    Config.testConfig.gain.toNat ≤ 3 ∧ (derive Config.testConfig).ltsDen.toNat ≠ 0
      ∧ validAlsTime Config.testConfig.alsTime = true
      ∧ max (0#16).toNat (0#16).toNat * Config.testConfig.scale.toNat = 0
      ∧ (derive Config.testConfig).ltsSat.toNat ≤ max (15000#16).toNat (0#16).toNat * Config.testConfig.scale.toNat := by
  decide

/-- A reading just above the armed hi, and one just below the armed lo. -/
theorem test_witness_ArmedPairOrderAfterTransition :
    thresholdsOrdered State.reset.cfg = true ∧ State.reset.cfg.proxLo < State.reset.derived.satProx
      ∧ 9501#16 > State.reset.pxArmHi ∧ 8999#16 < State.reset.pxArmLo
      ∧ ([9501, 9500, 9000, 8999] : List U16).map (proxCompare State.reset)
        = [⟨true, 65535, 9000, true⟩, ⟨false, 9500, 9000, false⟩, ⟨false, 9500, 9000, false⟩, ⟨false, 9500, 0, true⟩] := by
  decide +kernel

/-- R128's example, prox_adc_time 255 and prox_lo 2000, and the boundary where prox_lo equals SAT_PROX. -/
theorem test_witness_crossed_pair :
    { Config.testConfig with proxAdcTime := 255, proxLo := 2000 }.proxLo < Config.testConfig.proxHi
      ∧ (derive { Config.testConfig with proxAdcTime := 255 }).satProx ≤ 2000#16
      ∧ (derive { Config.testConfig with proxAdcTime := 255 }).satProx = 1024#16
      ∧ 9501#16 > State.reset.pxArmHi := by decide +kernel

/-- A near reading while near is a transition that keeps the pair (R81's corner cases), and one between is none. -/
theorem test_near_to_near :
    proxCompare { State.reset with pxEvent := true, pxArmHi := 1024, derived := ⟨1, 1, 15000, 18432, 1024⟩ } 5000
        = ⟨true, 1024, 9000, true⟩
      ∧ proxCompare { State.reset with pxEvent := true, pxArmHi := 65535 } 9200 = ⟨true, 65535, 9000, false⟩ := by
  decide +kernel

/-- The guard's boundary of R80's example. -/
theorem test_ambient_guard : ambientSwamped 18432 14745 = false ∧ ambientSwamped 18432 14746 = true := by decide

/-- Means on each side of the floor. -/
theorem test_witness_CalibratedPairHasItsFloor :
    1024 ≤ (65535#16).toNat ∧ 6863 + 1000 < 12 * (65535#16).toNat / 100 ∧ 12 * (65535#16).toNat / 100 ≤ 6864 + 1000
      ∧ (calLo 65535 6863, calHi 65535 6863) = (7864, 9830) ∧ (calLo 65535 6864, calHi 65535 6864) = (7864, 8364) := by
  decide

/-- The largest mean that is accepted (part 2.6). -/
theorem test_witness_CalibrateProxStoresTheCalibratedPair :
    (proxReady (readings 20 64035)).proxEn = true ∧ (∀ k < 22, ((proxReady (readings 20 64035)).answerAt k).ok = true)
      ∧ calHi (proxReady (readings 20 64035)).derived.satProx (calMean (proxReady (readings 20 64035))) = 0xFFFF := by
  decide +kernel

/-- Disabled; an `Err` at the seventh read and at the second write (part 2.6); a mean one too high. -/
theorem test_witness_CalibrateProxErrorsWriteNoRegister :
    State.reset.proxEn = false
      ∧ (∀ j < 6, ((proxReady (List.replicate 6 okay ++ [failed])).answerAt j).ok = true)
      ∧ ((proxReady (List.replicate 6 okay ++ [failed])).answerAt 6).ok = false
      ∧ (∀ j < 21, ((proxReady (List.replicate 21 okay ++ [failed])).answerAt j).ok = true)
      ∧ ((proxReady (List.replicate 21 okay ++ [failed])).answerAt 21).ok = false
      ∧ calHi (proxReady (List.replicate 21 okay)).derived.satProx (calMean (proxReady (List.replicate 21 okay))) ≤ 0xFFFF
      ∧ (∀ k < 20, ((proxReady (readings 20 64036)).answerAt k).ok = true)
      ∧ calHi (proxReady (readings 20 64036)).derived.satProx (calMean (proxReady (readings 20 64036))) = 0x10000 := by
  decide +kernel

/-- Each clause's flags. -/
theorem test_witness_DequeueTakesTheQueuedPassWhereEnabled :
    { State.reset with alsPending := true }.alsPending = true ∧ { State.reset with alsPending := true }.alsBusy = false
      ∧ { State.reset with proxPending := true }.proxPending = true
      ∧ { State.reset with proxPending := true }.proxBusy = false
      ∧ State.reset.alsPending = false ∧ State.reset.alsBusy = false ∧ State.reset.proxPending = false
      ∧ State.reset.proxBusy = false ∧ (lightReady []).alsBusy = true ∧ (proxReady []).proxBusy = true := by decide

theorem test_dequeue_not_enabled : exec .alsDeq State.reset = .refused .notEnabled := by rfl

theorem test_witness_DisabledModePassIsNoop :
    { State.reset with alsBusy := true }.alsBusy = true ∧ { State.reset with alsBusy := true }.alsEn = false
      ∧ { State.reset with proxBusy := true }.proxBusy = true ∧ { State.reset with proxBusy := true }.proxEn = false := by
  decide

/-- R96 (a)'s pass. -/
theorem test_witness_LightPassPublishesTheFilteredLux :
    (lightReady [okWith [0xE8, 0x03, 0x64, 0x00], okay, okay, okay]).alsBusy = true
      ∧ (lightReady [okWith [0xE8, 0x03, 0x64, 0x00], okay, okay, okay]).alsEn = true
      ∧ (∀ k < 4, ((lightReady [okWith [0xE8, 0x03, 0x64, 0x00], okay, okay, okay]).answerAt k).ok = true)
      ∧ (okWith [0xE8, 0x03, 0x64, 0x00]).data.extractLsb' 0 16 = 1000#16
      ∧ (okWith [0xE8, 0x03, 0x64, 0x00]).data.extractLsb' 16 16 = 100#16
      ∧ (luxEval Config.testConfig (derive Config.testConfig) 1000 100).toOption = some 848000 := by decide

/-- An `Err` at the first and at the fourth transaction; a selector above 3. -/
theorem test_witness_LightPassStopsAtItsFirstError :
    (lightReady [failed]).alsBusy = true ∧ (lightReady [failed]).alsEn = true
      ∧ ((lightReady [failed]).answerAt 0).ok = false
      ∧ (∀ j < 3, ((lightReady [okay, okay, okay, failed]).answerAt j).ok = true)
      ∧ ((lightReady [okay, okay, okay, failed]).answerAt 3).ok = false
      ∧ (∀ k < 4, ((lightReady [okay, okay, okay, okay]).answerAt k).ok = true)
      ∧ 3 < { Config.testConfig with gain := 4 }.gain.toNat := by decide

/-- The guard's last passing reading, with four successful transactions. -/
theorem test_witness_ProxPassPublishesTheComparison :
    (proxReady [okWith [0x99, 0x39, 0, 0, 0x80, 0x25], okay, okay, okay]).proxBusy = true
      ∧ (proxReady [okWith [0x99, 0x39, 0, 0, 0x80, 0x25], okay, okay, okay]).proxEn = true
      ∧ (∀ k < 4, ((proxReady [okWith [0x99, 0x39, 0, 0, 0x80, 0x25], okay, okay, okay]).answerAt k).ok = true)
      ∧ ambientSwamped 18432 ((okWith [0x99, 0x39, 0, 0, 0x80, 0x25]).data.extractLsb' 0 16) = false := by decide

/-- A failed read; the guard's first firing reading; an `Err` at the second and at the fourth transaction. -/
theorem test_witness_ProxPassStopsAtItsFirstError :
    ((proxReady [failed]).answerAt 0).ok = false
      ∧ ((proxReady [okWith [0x9A, 0x39]]).answerAt 0).ok = true
      ∧ ambientSwamped (proxReady []).derived.satAls ((okWith [0x9A, 0x39]).data.extractLsb' 0 16) = true
      ∧ ambientSwamped (proxReady []).derived.satAls (okay.data.extractLsb' 0 16) = false
      ∧ ((proxReady [okay, failed]).answerAt 0).ok = true ∧ ((proxReady [okay, failed]).answerAt 1).ok = false
      ∧ (∀ j < 3, ((proxReady [okay, okay, okay, failed]).answerAt j).ok = true)
      ∧ ((proxReady [okay, okay, okay, failed]).answerAt 3).ok = false := by decide

/-- A light pass and a proximity pass aborted at their first transaction, and each aborted by its other error. -/
theorem test_witness_ResultsSurviveAbortedPasses :
    seen (exec .alsExec (lightReady [failed])) (fun t => (t.alsLastStatus, t.hist, t.alsBusy, t.history.length))
        = some (0x01, ⟨some 20, some 30, none⟩, false, 1)
      ∧ seen (exec .proxExec (proxReady [failed])) (fun t => (t.proxLastStatus, t.pxArmHi, t.proxBusy))
        = some (0x01, 9500, false)
      ∧ seen (exec .proxExec (proxReady [okWith [0x9A, 0x39]])) (fun t => (t.proxLastStatus, t.history.length))
        = some (0x02, 1)
      ∧ seen (exec .alsExec { lightReady [okay, okay, okay, okay] with cfg := { Config.testConfig with gain := 4 } })
          (fun t => (t.alsLastStatus, t.history.length)) = some (0x04, 4) := by decide +kernel

theorem test_witness_PassesDoNotInterfere :
    (lightReady []).blankProx = { lightReady [] with pxArmHi := 7, proxPending := true }.blankProx
      ∧ lightReady [] ≠ { lightReady [] with pxArmHi := 7, proxPending := true }
      ∧ seen (exec .alsExec (lightReady [failed])) (fun t => t.proxPending) = some false
      ∧ seen (exec .proxExec (proxReady [failed])) (fun t => t.alsPending) = some false := by decide

/-- Two signals and the execution of the pass in flight, with a light pass queued; and the same for proximity. -/
theorem test_witness_RequestsCoalesce :
    { lightReady [] with alsPending := true }.alsPending = true
      ∧ (∀ p ∈ [Pick.signal, .alsExec, .signal], p ≠ .alsDeq ∧ p ≠ .reset)
      ∧ { proxReady [] with proxPending := true }.proxPending = true
      ∧ (∀ p ∈ [Pick.signal, .proxExec, .signal], p ≠ .proxDeq ∧ p ≠ .reset) := by decide

/-- A run: a light and a proximity pass are queued, and each is dequeued and executed; then the host has no step. -/
def fairPicks : Nat → Pick
  | 0 => .alsDeq
  | 1 => .alsExec
  | 2 => .proxDeq
  | 3 => .proxExec
  | _ => .host

/-- The states of that run. -/
def fairStates : Nat → State
  | 0 => { State.reset with alsPending := true, proxPending := true }
  | 1 => { State.reset with alsBusy := true, proxPending := true }
  | 2 => { State.reset with proxPending := true }
  | 3 => { State.reset with proxBusy := true }
  | _ => State.reset

theorem test_witness_FairRunsExecuteEveryQueuedPass :
    isRun fairStates fairPicks ∧ weaklyFair fairStates fairPicks ∧ (fairStates 0).alsPending = true
      ∧ (fairStates 0).proxPending = true := by
  refine ⟨fun n => ?_, fun p hp n h => ?_, rfl, rfl⟩
  · match n with
    | 0 => rfl
    | 1 => rfl
    | 2 => rfl
    | 3 => rfl
    | _ + 4 => rfl
  · have late := h (n + 4) (Nat.le_add_right _ _)
    have off : ∀ q ∈ [Pick.alsDeq, .alsExec, .proxDeq, .proxExec], unitEnabled q State.reset = false := by decide
    exact absurd (late.symm.trans (off p hp)) Bool.noConfusion

/-- A run with one input: TRIGGER_ALS is issued and run, its pass is dequeued and executed; then the host has no step. -/
def triggerPicks : Nat → Pick
  | 0 => .issue [0x0C]
  | 1 => .host
  | 2 => .alsDeq
  | 3 => .alsExec
  | _ => .host

/-- The states of that run. -/
def triggerStates : Nat → State
  | 0 => State.reset
  | 1 => { State.reset with hostCmd := some [0x0C] }
  | 2 => { State.reset with responses := [[0x00]], alsPending := true }
  | 3 => { State.reset with responses := [[0x00]], alsBusy := true }
  | _ => { State.reset with responses := [[0x00]] }

theorem test_witness_UnitsReachQuiescence :
    (start [.host] []).portReq = none ∧ quiescent (start [.host] []) = true
      ∧ (start [.host] []).nextPick ∈ [Pick.host, .alsDeq, .alsExec, .proxDeq, .proxExec]
      ∧ (lightReady []).hostCmd = none := by decide

/-- The run meets every hypothesis on runs; its one input enables one dequeue and one execution. -/
theorem test_witness_run_with_one_input :
    isRun triggerStates triggerPicks ∧ weaklyFair triggerStates triggerPicks ∧ finitelyManyInputs triggerPicks
      ∧ commandsExecuted triggerStates triggerPicks ∧ inputsBefore triggerPicks 6 = 1
      ∧ takenBefore .alsDeq triggerStates triggerPicks 6 = 1 ∧ takenBefore .alsExec triggerStates triggerPicks 6 = 1 := by
  refine ⟨fun n => ?_, fun p hp n h => ?_, ⟨1, fun n h => ?_⟩, fun n h => ?_, by decide, by decide, by decide⟩
  · match n with
    | 0 => rfl
    | 1 => rfl
    | 2 => rfl
    | 3 => rfl
    | _ + 4 => rfl
  · have late := h (n + 4) (Nat.le_add_right _ _)
    have off : ∀ q ∈ [Pick.alsDeq, .alsExec, .proxDeq, .proxExec],
        unitEnabled q { State.reset with responses := [[0x00]] } = false := by decide
    exact absurd (late.symm.trans (off p hp)) Bool.noConfusion
  · match n with
    | 0 => omega
    | 1 => rfl
    | 2 => rfl
    | 3 => rfl
    | _ + 4 => rfl
  · exact absurd (h (n + 4) (Nat.le_add_right _ _)) Bool.noConfusion

theorem test_witness_ReadLightReturnsThePublishedLux :
    State.reset.luxPub = none ∧ { State.reset with luxPub := some 0 }.luxPub = some 0 := by decide

/-- Off; nothing published; published 0, and a quotient on each side of 65535. -/
theorem test_witness_CalibrateLightSetsTheGainTrim :
    State.reset.alsEn = false ∧ { State.reset with alsEn := true }.luxPub = none
      ∧ (lightReady []).alsEn = true ∧ 0xFFFF < Config.testConfig.calTarget.toNat * 512 / 781
      ∧ ¬ 0xFFFF < Config.testConfig.calTarget.toNat * 512 / 782 := by decide

theorem test_witness_HostCommandsReturnOneResponse : encode .calibrateProx = some (.host [0x09]) := by decide

/-- R38: the last address each transfer fits at, and the first it does not. -/
theorem test_witness_SensorAutoIssuesItsTransfer :
    (0x1E#5).toNat + (Xfer.write 0).count ≤ 32 ∧ ¬ (0x1F#5).toNat + (Xfer.write 0).count ≤ 32
      ∧ (0x1C#5).toNat + Xfer.read4.count ≤ 32 ∧ ¬ (0x1B#5).toNat + Xfer.read6.count ≤ 32 := by decide

end Sys2Proof.Tests
end

section
/-! SUPPORT. The statements on the invariants, on who writes the configuration, on the stored-only fields and on the armed
pair. Each rests on one of two facts said once of every operation: everything it can write of the registers that the
invariants name (`exec_watchedEffect`), and that its transactions commute with a view the port is blind to
(`Op.Commutes`). -/

namespace Sys2Proof.Machine

/-! ## Ranges of the configuration store's functions and of the engines -/

/-- R59: the normalised time meets (I1). -/
theorem validAlsTime_normAlsTime (t : U16) : validAlsTime (normAlsTime t) = true := by
  have value : (normAlsTime t).toNat = (min (max t.toNat 50) 650 + 25) / 50 * 50 := by
    simp only [normAlsTime, BitVec.toNat_ofNat]
    omega
  simp only [validAlsTime, value, Bool.and_eq_true, decide_eq_true_eq]
  omega

/-- R60: a saturation level is at least that of the shortest integration. -/
theorem le_saturationOf (x : Byte) : 1024 ≤ (saturationOf x).toNat := by
  have hx := x.isLt
  simp only [saturationOf, BitVec.toNat_ofNat]
  omega

/-- R84: the calibrated pair is ordered, whether the floor applies or not. -/
theorem calLo_lt_calHi {satProx : U16} (h : 1024 ≤ satProx.toNat) (mean : Nat) :
    calLo satProx mean < calHi satProx mean := by
  unfold calLo calHi
  split
  · simp only [floor12, floor15]
    omega
  · omega

theorem luxMin_eq (a b : Lux) : luxMin a b = a ∨ luxMin a b = b := by
  unfold luxMin
  split
  · exact .inl rfl
  · exact .inr rfl

theorem luxMaxOf_eq (a b : Lux) : luxMaxOf a b = a ∨ luxMaxOf a b = b := by
  unfold luxMaxOf
  split
  · exact .inr rfl
  · exact .inl rfl

/-- R76: the median is one of its three arguments. -/
theorem median3_eq (a b c : Lux) : median3 a b c = a ∨ median3 a b c = b ∨ median3 a b c = c := by
  unfold median3
  rcases luxMaxOf_eq (luxMin a b) (luxMin (luxMaxOf a b) c) with h | h <;> rw [h]
  · rcases luxMin_eq a b with h | h <;> simp [h]
  · rcases luxMin_eq (luxMaxOf a b) c with h | h <;> rw [h]
    · rcases luxMaxOf_eq a b with h | h <;> simp [h]
    · exact .inr (.inr rfl)

/-- R77: the filter puts out only what its three slots hold. -/
theorem luxSlotOk_medianOutput {h : History} (newest : luxSlotOk h.newest = true) (middle : luxSlotOk h.middle = true)
    (oldest : luxSlotOk h.oldest = true) : luxSlotOk (medianOutput h) = true := by
  unfold medianOutput
  split
  · rename_i a b c atNewest atMiddle atOldest
    rw [atNewest] at newest
    rw [atMiddle] at middle
    rw [atOldest] at oldest
    rcases median3_eq a b c with eq | eq | eq <;> rw [eq] <;> assumption
  · rfl

/-- Everything `LuxEval` can answer: OutOfRange, or a value that fits a lux slot (R66, R69). -/
theorem luxEval_cases (cfg : DeviceConfig) (d : Derived) (c0 c1 : U16) :
    luxEval cfg d c0 c1 = .error .outOfRange ∨ ∃ v, v ≤ luxMax ∧ luxEval cfg d c0 c1 = .ok v := by
  simp only [luxEval]
  split
  · exact .inl rfl
  · split
    · exact .inl rfl
    · split
      · exact .inl rfl
      · exact .inr ⟨_, luxOfScaled_le .., rfl⟩

/-! ## How an operation's body ends -/

/-- Every value the body ends with meets `Q`, and every error it raises has a code that a pass may record (R106). -/
structure Op.EndsIn {α : Type} (Q : α → Prop) (x : Op α) : Prop where
  value : ∀ {s a t}, x s = (.ok a, t) → Q a
  error : ∀ {s e t}, x s = (.error e, t) → recordedCodeOk e.code = true

theorem Op.endsIn_done {α : Type} {Q : α → Prop} {a : α} (h : Q a) : Op.EndsIn Q (Op.done a) where
  value run := by cases run; exact h
  error run := by cases run

theorem Op.endsIn_fail {α : Type} {Q : α → Prop} {e : ErrorKind} (h : recordedCodeOk e.code = true) :
    Op.EndsIn Q (Op.fail e) where
  value run := by cases run
  error run := by cases run; exact h

/-- A body whose continuation ends in `Q` ends in `Q`, whatever its first part's value is. -/
theorem Op.endsIn_andThen {α β : Type} {P : α → Prop} {Q : β → Prop} {x : Op α} {f : α → Op β} (hx : Op.EndsIn P x)
    (hf : ∀ a, Op.EndsIn Q (f a)) : Op.EndsIn Q (Op.andThen x f) where
  value {s _ _} run := by
    rcases Op.andThen_cases x f s with ⟨e, t, -, k⟩ | ⟨a, t, -, k⟩ <;> rw [k] at run
    · cases run
    · exact (hf a).value run
  error {s _ _} run := by
    rcases Op.andThen_cases x f s with ⟨e, t, h, k⟩ | ⟨a, t, -, k⟩ <;> rw [k] at run
    · cases run
      exact hx.error h
    · exact (hf a).error run

/-- A sensor-port primitive raises TransportError and nothing else (R10). -/
theorem Op.endsIn_transaction {α : Type} {x : Op α} {a : State → α}
    (h : ∀ s, (x s).1 = if (s.answerAt 0).ok then .ok (a s) else .error .transportError) :
    Op.EndsIn (fun _ => True) x where
  value _ := trivial
  error {s _ _} run := by
    have outcome := h s
    rw [run] at outcome
    split at outcome <;> cases outcome
    rfl

theorem memRead_endsIn (agent : Agent) (addr : SensorAddr) (n : Nat) :
    Op.EndsIn (fun _ => True) (memRead agent addr n) :=
  Op.endsIn_transaction fun _ => rfl

theorem memWrite_endsIn (agent : Agent) (addr : SensorAddr) (v : U16) :
    Op.EndsIn (fun _ => True) (memWrite agent addr v) :=
  Op.endsIn_transaction fun _ => rfl

theorem busSF_endsIn (agent : Agent) (code : SensorAddr) : Op.EndsIn (fun _ => True) (busSF agent code) :=
  Op.endsIn_transaction fun _ => rfl

/-! ## The bodies of the passes as operations -/

/-- The light pass's body (R91), apart from the state it starts in: the parameters and what `LuxEval` answers. -/
def lightOp (p : Params) (eval : U16 → U16 → Except ErrorKind Nat) : Op Lux :=
  Op.andThen (memRead .lightUnit p.regData 4) fun r =>
    Op.andThen (memWrite .lightUnit p.regAilt (alsWindowLo (clearChannel r))) fun _ =>
      Op.andThen (memWrite .lightUnit p.regAiht (alsWindowHi (clearChannel r))) fun _ =>
        Op.andThen (busSF .lightUnit sfAlsCode) fun _ =>
          match eval (clearChannel r) (irChannel r) with
          | .ok v => Op.done (BitVec.ofNat 32 v)
          | .error e => Op.fail e

theorem lightBody_eq (s : State) : lightBody s = lightOp s.params (luxEval s.cfg s.derived) s := rfl

/-- The proximity pass's body (R92), apart from the state it starts in: the parameters, the guard's saturation level and
the comparator. -/
def proxOp (p : Params) (satAls : U16) (compare : U16 → Comparison) : Op ProxResult :=
  Op.andThen (memRead .proxUnit p.regData 6) fun r =>
    if ambientSwamped satAls (clearChannel r) then Op.fail .noData
    else
      Op.andThen (memWrite .proxUnit p.regPilt (compare (proxChannel r)).lo) fun _ =>
        Op.andThen (memWrite .proxUnit p.regPiht (compare (proxChannel r)).hi) fun _ =>
          Op.andThen (busSF .proxUnit sfProxCode) fun _ =>
            Op.done ⟨clearChannel r, proxChannel r, compare (proxChannel r)⟩

theorem proxBody_eq (s : State) : proxBody s = proxOp s.params s.derived.satAls (proxCompare s) s := rfl

/-- A light pass ends with a lux value in range, or raises TransportError or OutOfRange (R91). -/
theorem lightOp_endsIn (p : Params) (cfg : DeviceConfig) (d : Derived) :
    Op.EndsIn (fun v => v.toNat ≤ luxMax) (lightOp p (luxEval cfg d)) := by
  refine Op.endsIn_andThen (memRead_endsIn ..) fun r => ?_
  refine Op.endsIn_andThen (memWrite_endsIn ..) fun _ => ?_
  refine Op.endsIn_andThen (memWrite_endsIn ..) fun _ => ?_
  refine Op.endsIn_andThen (busSF_endsIn ..) fun _ => ?_
  rcases luxEval_cases cfg d (clearChannel r) (irChannel r) with eval | ⟨v, le, eval⟩ <;> rw [eval]
  · exact Op.endsIn_fail rfl
  · refine Op.endsIn_done ?_
    simp only [luxMax, BitVec.toNat_ofNat] at le ⊢
    omega

/-- A proximity pass raises TransportError or NoData (R92). -/
theorem proxOp_endsIn (p : Params) (satAls : U16) (compare : U16 → Comparison) :
    Op.EndsIn (fun _ => True) (proxOp p satAls compare) := by
  refine Op.endsIn_andThen (memRead_endsIn ..) fun r => ?_
  cases ambientSwamped satAls (clearChannel r)
  · refine Op.endsIn_andThen (memWrite_endsIn ..) fun _ => ?_
    refine Op.endsIn_andThen (memWrite_endsIn ..) fun _ => ?_
    exact Op.endsIn_andThen (busSF_endsIn ..) fun _ => Op.endsIn_done trivial
  · exact Op.endsIn_fail rfl

/-- The thresholds of a calibration (R83): those of some mean whose high threshold fits 16 bits. -/
def calibratedPair (satProx : U16) (c : Calibration) : Prop :=
  ∃ mean, calHi satProx mean ≤ 0xFFFF ∧ c.hi = BitVec.ofNat 16 (calHi satProx mean)
    ∧ c.lo = BitVec.ofNat 16 (calLo satProx mean)

/-- R84 on the stored words. -/
theorem calibratedPair_ordered {satProx : U16} {c : Calibration} (h : calibratedPair satProx c)
    (sat : 1024 ≤ satProx.toNat) : c.lo.toNat < c.hi.toNat := by
  obtain ⟨mean, fits, hi, lo⟩ := h
  have lt := calLo_lt_calHi sat mean
  rw [hi, lo, BitVec.toNat_ofNat, BitVec.toNat_ofNat]
  omega

theorem calReadings_endsIn (addr : SensorAddr) (n sum mx : Nat) :
    Op.EndsIn (fun _ => True) (calReadings addr n sum mx) := by
  induction n generalizing sum mx with
  | zero => exact Op.endsIn_done trivial
  | succ n ih => exact Op.endsIn_andThen (memRead_endsIn ..) fun r => ih _ _

theorem calWriteBack_endsIn (p : Params) (satProx : U16) (readings : Nat × Nat) :
    Op.EndsIn (calibratedPair satProx) (calWriteBack p satProx readings) := by
  simp only [calWriteBack]
  split
  · exact Op.endsIn_fail rfl
  · rename_i fits
    refine Op.endsIn_andThen (memWrite_endsIn ..) fun _ => ?_
    refine Op.endsIn_andThen (memWrite_endsIn ..) fun _ => ?_
    exact Op.endsIn_done ⟨_, Nat.le_of_not_gt fits, rfl, rfl⟩

/-- A calibration that succeeds stores a calibrated pair (R83). -/
theorem calibration_pair {s t : State} {c : Calibration} (h : calibration s = (.ok c, t)) :
    calibratedPair s.derived.satProx c :=
  (Op.endsIn_andThen (calReadings_endsIn ..) fun r => calWriteBack_endsIn s.params _ r).value h

/-! ## What an operation writes of the registers that the invariants name -/

/-- The registers that R28's invariants and the ranges of R18, R19 and R106 speak of. -/
structure Watched where
  params : Params
  cfg : DeviceConfig
  derived : Derived
  dispState : DispState
  hist : History
  luxPub : Option Lux
  alsLastStatus : Byte
  proxLastStatus : Byte
  dispLastStatus : Byte

/-- Those registers of a state. -/
def State.watched (s : State) : Watched where
  params := s.params
  cfg := s.cfg
  derived := s.derived
  dispState := s.dispState
  hist := s.hist
  luxPub := s.luxPub
  alsLastStatus := s.alsLastStatus
  proxLastStatus := s.proxLastStatus
  dispLastStatus := s.dispLastStatus

theorem State.cfg_of_watched {s t : State} (h : t.watched = s.watched) : t.cfg = s.cfg := congrArg Watched.cfg h

theorem State.derived_of_watched {s t : State} (h : t.watched = s.watched) : t.derived = s.derived :=
  congrArg Watched.derived h

/-- The invariants depend on the watched registers alone. -/
theorem Inv.of_watched {s t : State} (inv : Inv s) (h : t.watched = s.watched) : Inv t := by
  simp only [State.watched, Watched.mk.injEq] at h
  obtain ⟨params, cfg, derived, disp, hist, pub, light, prox, dispatch⟩ := h
  obtain ⟨_, _, _, _, _, _, _, _, _, _, _, _⟩ := inv
  constructor <;> simpa only [params, cfg, derived, disp, hist, pub, light, prox, dispatch]

/-- Everything an operation `i` that takes `s` to `t` can write of the watched registers: nothing, or what the one
operation that writes them writes. -/
inductive WatchedEffect (s t : State) : Instr → Prop where
  | unchanged {i : Instr} (h : t.watched = s.watched) : WatchedEffect s t i
  /-- LIGHT_ON (R97) restarts the history. -/
  | restart (h : t.watched = s.medianRestart.watched) : WatchedEffect s t .lightOn
  /-- CALIBRATE_LIGHT (R100) writes the gain trim. -/
  | trim (g : U16) (h : t.watched = { s with cfg := { s.cfg with gainTrim := g } }.watched) :
      WatchedEffect s t .calibrateLight
  /-- CALIBRATE_PROX (R83) writes a calibrated pair. -/
  | calibrate (c : Calibration) (pair : calibratedPair s.derived.satProx c)
      (h : t.watched = (s.commitCalibration c).watched) : WatchedEffect s t .calibrateProx
  /-- SET_CONFIG (R61) stores the normalised record, whose thresholds it checked. -/
  | configure (record : DeviceConfig) (ordered : thresholdsOrdered (normConfig record) = true)
      (h : t.watched = (s.commitConfig (normConfig record)).watched) : WatchedEffect s t (.setConfig record)
  /-- IRQ (R86) ends Idle and records a status. -/
  | dispatch (code : Byte) (recorded : recordedCodeOk code = true)
      (h : t.watched = { s with dispLastStatus := code, dispState := .idle }.watched) : WatchedEffect s t .irq
  /-- A light pass (R91) commits a lux value in range. -/
  | publish (v : Lux) (le : v.toNat ≤ luxMax) (h : t.watched = (s.commitLight v).watched) : WatchedEffect s t .alsExec
  /-- A light pass (R91) aborts. -/
  | abort (e : ErrorKind) (recorded : recordedCodeOk e.code = true) (h : t.watched = (s.abortLight e).watched) :
      WatchedEffect s t .alsExec
  /-- A proximity pass (R92) records its status. -/
  | proximity (code : Byte) (recorded : recordedCodeOk code = true)
      (h : t.watched = { s with proxLastStatus := code }.watched) : WatchedEffect s t .proxExec

theorem irqStep_watchedEffect (s : State) : WatchedEffect s (irqStep s) .irq := by
  unfold irqStep
  cases read : (({ s with dispState := .dispatching } : State).answerAt 0).ok
  · rw [memRead_err read]
    exact .dispatch ErrorKind.transportError.code rfl rfl
  · rw [memRead_ok read]
    exact .dispatch statusOk rfl rfl

theorem lightPass_watchedEffect (s : State) : WatchedEffect s (lightPass s) .alsExec := by
  obtain ⟨es, frame, -⟩ := lightBody_frame s
  have ends := lightOp_endsIn s.params s.cfg s.derived
  unfold lightPass
  rw [lightBody_eq] at frame ⊢
  split
  · split <;> rename_i body <;> rw [body] at frame <;> simp only at frame <;> subst frame
    · exact .publish _ (ends.value body) rfl
    · exact .abort _ (ends.error body) rfl
  · exact .unchanged rfl

theorem proxPass_watchedEffect (s : State) : WatchedEffect s (proxPass s) .proxExec := by
  obtain ⟨es, frame, -⟩ := proxBody_frame s
  have ends := proxOp_endsIn s.params s.derived.satAls (proxCompare s)
  unfold proxPass
  rw [proxBody_eq] at frame ⊢
  split
  · split <;> rename_i body <;> rw [body] at frame <;> simp only at frame <;> subst frame
    · exact .proximity statusOk rfl rfl
    · exact .proximity _ (ends.error body) rfl
  · exact .unchanged rfl

theorem calibrateProx_watchedEffect {s t : State} (h : exec .calibrateProx s = .next t) :
    WatchedEffect s t .calibrateProx := by
  obtain ⟨es, frame, -⟩ := calibration_frame s
  cases h
  split
  · split <;> rename_i result <;> rw [result] at frame <;> simp only at frame <;> subst frame
    · exact .calibrate _ (calibration_pair result) rfl
    · exact .unchanged rfl
  · exact .unchanged rfl

/-- An operation that is refused or faults where its guard fails answers a next state only where it holds. -/
theorem next_of_guarded {c : Prop} [Decidable c] {o : Host.Outcome State Fault Refusal} {u t : State}
    (h : (if c then .next u else o) = .next t) (stops : o ≠ .next t) : u = t := by
  split at h
  · exact Host.Outcome.next.inj h
  · exact absurd h stops

/-- Whatever operation runs, its effect on the watched registers is one of those. -/
theorem exec_watchedEffect {i : Instr} {s t : State} (h : exec i s = .next t) : WatchedEffect s t i := by
  cases i
  case lightOn =>
    cases h
    split
    · exact .unchanged rfl
    · exact .restart rfl
  case readLight =>
    cases h
    split <;> exact .unchanged rfl
  case calibrateLight =>
    cases h
    split
    · exact .trim _ rfl
    · exact .unchanged rfl
  case proxOn =>
    cases h
    split <;> exact .unchanged rfl
  case calibrateProx => exact calibrateProx_watchedEffect h
  case setConfig record =>
    cases h
    split
    · rename_i ordered
      exact .configure record ordered rfl
    · exact .unchanged rfl
  case sensorAuto addr xfer =>
    cases next_of_guarded h nofun
    cases xfer <;> exact .unchanged rfl
  case irq =>
    cases h
    exact irqStep_watchedEffect s
  case alsDeq =>
    cases next_of_guarded h nofun
    exact .unchanged rfl
  case alsExec =>
    cases next_of_guarded h nofun
    exact lightPass_watchedEffect s
  case proxDeq =>
    cases next_of_guarded h nofun
    exact .unchanged rfl
  case proxExec =>
    cases next_of_guarded h nofun
    exact proxPass_watchedEffect s
  all_goals
    cases h
    exact .unchanged rfl

/-! ## The invariants -/

/-- R28, R123: the reset values meet the invariants, for every parameter record that meets its constraints. -/
theorem inv_resetWith {p : Params} (h : paramsOk p = true) : Inv (State.resetWith p) := by
  have stored : storable p.defaultConfig = true := by
    simp only [paramsOk, Bool.and_eq_true] at h
    exact h.2
  simp only [storable, Bool.and_eq_true] at stored
  obtain ⟨time, ordered⟩ := stored
  exact { params := h, alsTime := time, thresholds := ordered, derived := rfl, idle := rfl, newest := rfl, middle := rfl,
          oldest := rfl, published := rfl, lightStatus := rfl, proxStatus := rfl, dispatchStatus := rfl }

/-- Settles O17: the parameters of `State.reset` meet their constraints. -/
theorem invariantsHoldAtReset : Obligations.InvariantsHoldAtReset :=
  inv_resetWith (by decide)

/-- R60: the invariants bound SAT_PROX from below. -/
theorem Inv.le_satProx {s : State} (inv : Inv s) : 1024 ≤ s.derived.satProx.toNat := by
  rw [inv.derived]
  exact le_saturationOf _

theorem Inv.medianRestart {s : State} (inv : Inv s) : Inv s.medianRestart :=
  { inv with newest := rfl, middle := rfl, oldest := rfl, published := rfl }

/-- `Derive` reads neither the gain trim nor the thresholds, so a calibration keeps (I3) (R15, R16). -/
theorem Inv.setGainTrim {s : State} (inv : Inv s) (g : U16) : Inv { s with cfg := { s.cfg with gainTrim := g } } :=
  { inv with }

theorem Inv.commitCalibration {s : State} (inv : Inv s) {c : Calibration} (pair : calibratedPair s.derived.satProx c) :
    Inv (s.commitCalibration c) :=
  { inv with thresholds := decide_eq_true (calibratedPair_ordered pair inv.le_satProx) }

theorem Inv.commitConfig {s : State} (inv : Inv s) {record : DeviceConfig}
    (ordered : thresholdsOrdered (normConfig record) = true) : Inv (s.commitConfig (normConfig record)) :=
  { inv with alsTime := validAlsTime_normAlsTime _, thresholds := ordered, derived := rfl }

theorem Inv.commitLight {s : State} (inv : Inv s) {v : Lux} (le : v.toNat ≤ luxMax) : Inv (s.commitLight v) :=
  have slot : luxSlotOk (some v) = true := decide_eq_true le
  { inv with
    newest := slot, middle := inv.newest, oldest := inv.middle
    published := luxSlotOk_medianOutput slot inv.newest inv.middle
    lightStatus := rfl }

theorem Inv.abortLight {s : State} (inv : Inv s) {e : ErrorKind} (recorded : recordedCodeOk e.code = true) :
    Inv (s.abortLight e) :=
  { inv with lightStatus := recorded }

theorem Inv.recordProximity {s : State} (inv : Inv s) {code : Byte} (recorded : recordedCodeOk code = true) :
    Inv { s with proxLastStatus := code } :=
  { inv with proxStatus := recorded }

theorem Inv.recordDispatch {s : State} (inv : Inv s) {code : Byte} (recorded : recordedCodeOk code = true) :
    Inv { s with dispLastStatus := code, dispState := .idle } :=
  { inv with idle := rfl, dispatchStatus := recorded }

/-- R28: an operation keeps the invariants. -/
theorem exec_keeps_inv {i : Instr} {s t : State} (inv : Inv s) (run : exec i s = .next t) : Inv t := by
  cases exec_watchedEffect run with
  | unchanged h => exact inv.of_watched h
  | restart h => exact inv.medianRestart.of_watched h
  | trim g h => exact (inv.setGainTrim g).of_watched h
  | calibrate c pair h => exact (inv.commitCalibration pair).of_watched h
  | configure record ordered h => exact (inv.commitConfig ordered).of_watched h
  | dispatch code recorded h => exact (inv.recordDispatch recorded).of_watched h
  | publish v le h => exact (inv.commitLight le).of_watched h
  | abort e recorded h => exact (inv.abortLight recorded).of_watched h
  | proximity code recorded h => exact (inv.recordProximity recorded).of_watched h

theorem runCommand_keeps_inv {bytes : List Byte} {s t : State} (inv : Inv s) (run : runCommand bytes s = .next t) :
    Inv t := by
  unfold runCommand at run
  split at run
  · exact exec_keeps_inv inv run
  · cases run
    exact inv.of_watched rfl

theorem runIf_keeps_inv {enabled : Bool} {i : Instr} {s t : State} (inv : Inv s) (run : runIf enabled i s = .next t) :
    Inv t := by
  cases enabled
  · rw [runIf_false rfl] at run
    cases run
    exact inv
  · rw [runIf_true rfl] at run
    exact exec_keeps_inv inv run

/-- R28, R85: a choice of the environment, where it takes an operation and where it takes none. -/
theorem runPick_keeps_inv {p : Pick} {s t : State} (inv : Inv s) (run : runPick p s = .next t) : Inv t := by
  cases p
  case issue command =>
    cases run
    unfold State.issueCommand
    split <;> exact inv.of_watched rfl
  case host =>
    change runHost s = .next t at run
    unfold runHost at run
    split at run
    · exact runCommand_keeps_inv inv run
    · cases run
      exact inv
  case reset =>
    cases run
    exact (inv_resetWith inv.params).of_watched rfl
  all_goals exact runIf_keeps_inv inv run

/-- Settles O18: what a turn takes away before its operation runs, the choice or the bare request, is not watched. -/
theorem stepKeepsInvariants : Obligations.StepKeepsInvariants := by
  intro s t inv run
  change takeTurn s = .next t at run
  unfold takeTurn at run
  split at run
  · unfold runPort at run
    split at run
    · refine exec_keeps_inv ?_ run
      exact inv.of_watched rfl
    · cases run
  · refine runPick_keeps_inv ?_ run
    exact inv.of_watched rfl

/-! ## Who writes the configuration -/

/-- What R15 and R16 let an operation other than SET_CONFIG write of the configuration and the derived registers. -/
def configFrame (i : Instr) (s t : State) : Prop :=
  t.derived = s.derived
    ∧ (i = .calibrateLight → t.cfg = { s.cfg with gainTrim := t.cfg.gainTrim })
    ∧ (i = .calibrateProx → t.cfg = { s.cfg with proxHi := t.cfg.proxHi, proxLo := t.cfg.proxLo })
    ∧ (i ≠ .calibrateLight → i ≠ .calibrateProx → t.cfg = s.cfg)

theorem configFrame_of_eq {s t : State} (i : Instr) (cfg : t.cfg = s.cfg) (derived : t.derived = s.derived) :
    configFrame i s t :=
  ⟨derived, fun _ => by rw [cfg], fun _ => by rw [cfg], fun _ _ => cfg⟩

/-- Settles O24, by the cases of an operation's effect on the watched registers. -/
theorem onlyThreeCommandsWriteTheConfiguration : Obligations.OnlyThreeCommandsWriteTheConfiguration := by
  intro i s t run notSet
  change configFrame i s t
  cases exec_watchedEffect run with
  | configure record => exact absurd rfl (notSet record)
  | trim g h =>
    have cfg := State.cfg_of_watched h
    have derived := State.derived_of_watched h
    exact ⟨derived, fun _ => by rw [cfg], nofun, fun light => absurd rfl light⟩
  | calibrate c pair h =>
    have cfg := State.cfg_of_watched h
    have derived := State.derived_of_watched h
    exact ⟨derived, nofun, fun _ => by rw [cfg]; rfl, fun _ prox => absurd rfl prox⟩
  | unchanged h | restart h | dispatch _ _ h | publish _ _ h | abort _ _ h | proximity _ _ h =>
    have cfg := State.cfg_of_watched h
    have derived := State.derived_of_watched h
    exact configFrame_of_eq _ cfg derived

/-! ## Views of the state that the sensor port does not see -/

/-- A view that leaves the sensor's next answer alone and commutes with recording a transaction. -/
structure PortBlind (view : State → State) : Prop where
  answer : ∀ s, (view s).answerAt 0 = s.answerAt 0
  record : ∀ s e, (view s).record e = view (s.record e)

/-- A body that ends in the same way from a state and from its view, and leaves the view of the state it leaves. -/
structure Op.Commutes {α : Type} (view : State → State) (x : Op α) : Prop where
  run : ∀ s, x (view s) = ((x s).1, view (x s).2)

theorem Op.commutes_done {α : Type} (view : State → State) (a : α) : Op.Commutes view (Op.done a) where
  run _ := rfl

theorem Op.commutes_fail {α : Type} (view : State → State) (e : ErrorKind) :
    Op.Commutes view (Op.fail e : Op α) where
  run _ := rfl

theorem Op.commutes_andThen {α β : Type} {view : State → State} {x : Op α} {f : α → Op β} (hx : Op.Commutes view x)
    (hf : ∀ a, Op.Commutes view (f a)) : Op.Commutes view (Op.andThen x f) where
  run s := by
    have first := hx.run s
    rcases Op.andThen_cases x f s with ⟨e, t, h, k⟩ | ⟨a, t, h, k⟩ <;> rw [h] at first <;> rw [k]
    · exact Op.andThen_error first
    · rw [Op.andThen_ok first, (hf a).run t]

section
variable {view : State → State} (blind : PortBlind view)
include blind

theorem memRead_commutes (agent : Agent) (addr : SensorAddr) (n : Nat) : Op.Commutes view (memRead agent addr n) :=
  ⟨fun s => by simp only [memRead, blind.answer, blind.record]⟩

theorem memWrite_commutes (agent : Agent) (addr : SensorAddr) (v : U16) : Op.Commutes view (memWrite agent addr v) :=
  ⟨fun s => by simp only [memWrite, blind.answer, blind.record]⟩

theorem busSF_commutes (agent : Agent) (code : SensorAddr) : Op.Commutes view (busSF agent code) :=
  ⟨fun s => by simp only [busSF, blind.answer, blind.record]⟩

theorem lightOp_commutes (p : Params) (eval : U16 → U16 → Except ErrorKind Nat) :
    Op.Commutes view (lightOp p eval) := by
  refine Op.commutes_andThen (memRead_commutes blind ..) fun r => ?_
  refine Op.commutes_andThen (memWrite_commutes blind ..) fun _ => ?_
  refine Op.commutes_andThen (memWrite_commutes blind ..) fun _ => ?_
  refine Op.commutes_andThen (busSF_commutes blind ..) fun _ => ?_
  cases eval (clearChannel r) (irChannel r)
  · exact Op.commutes_fail ..
  · exact Op.commutes_done ..

theorem proxOp_commutes (p : Params) (satAls : U16) (compare : U16 → Comparison) :
    Op.Commutes view (proxOp p satAls compare) := by
  refine Op.commutes_andThen (memRead_commutes blind ..) fun r => ?_
  cases ambientSwamped satAls (clearChannel r)
  · refine Op.commutes_andThen (memWrite_commutes blind ..) fun _ => ?_
    refine Op.commutes_andThen (memWrite_commutes blind ..) fun _ => ?_
    exact Op.commutes_andThen (busSF_commutes blind ..) fun _ => Op.commutes_done ..
  · exact Op.commutes_fail ..

theorem calReadings_commutes (addr : SensorAddr) (n sum mx : Nat) :
    Op.Commutes view (calReadings addr n sum mx) := by
  induction n generalizing sum mx with
  | zero => exact Op.commutes_done ..
  | succ n ih => exact Op.commutes_andThen (memRead_commutes blind ..) fun r => ih _ _

theorem calWriteBack_commutes (p : Params) (satProx : U16) (readings : Nat × Nat) :
    Op.Commutes view (calWriteBack p satProx readings) := by
  simp only [calWriteBack]
  split
  · exact Op.commutes_fail ..
  · refine Op.commutes_andThen (memWrite_commutes blind ..) fun _ => ?_
    exact Op.commutes_andThen (memWrite_commutes blind ..) fun _ => Op.commutes_done ..

end

/-- What a view shows of an outcome: the view of the next state, or the reason. -/
def viewOutcome (view : State → State) : Host.Outcome State Fault Refusal → Host.Outcome State Fault Refusal
  | .next s => .next (view s)
  | .fault r => .fault r
  | .refused r => .refused r

theorem agreeThrough_iff {view : State → State} {x y : Host.Outcome State Fault Refusal} :
    agreeThrough view x y ↔ viewOutcome view x = viewOutcome view y := by
  cases x <;> cases y <;> simp [agreeThrough, viewOutcome]

/-! ## The stored-only fields -/

theorem blankStored_portBlind : PortBlind State.blankStored where
  answer _ := rfl
  record _ _ := rfl

/-- The light pass reads none of the eight fields: neither the parameters nor `LuxEval` holds one (R15, R69). -/
theorem lightBody_blankStored (s : State) :
    lightBody s.blankStored = ((lightBody s).1, (lightBody s).2.blankStored) := by
  rw [lightBody_eq, lightBody_eq]
  exact (lightOp_commutes blankStored_portBlind s.params (luxEval s.cfg s.derived)).run s

/-- Nor does the proximity pass: the comparator reads the thresholds, SAT_PROX and the armed pair (R81). -/
theorem proxBody_blankStored (s : State) : proxBody s.blankStored = ((proxBody s).1, (proxBody s).2.blankStored) := by
  rw [proxBody_eq, proxBody_eq]
  exact (proxOp_commutes blankStored_portBlind s.params s.derived.satAls (proxCompare s)).run s

theorem calibration_blankStored (s : State) :
    calibration s.blankStored = ((calibration s).1, (calibration s).2.blankStored) :=
  (Op.commutes_andThen (calReadings_commutes blankStored_portBlind ..)
    fun r => calWriteBack_commutes blankStored_portBlind s.params s.derived.satProx r).run s

/-- Two branchings on one condition agree through `f` where their branches do. -/
theorem apply_ite_congr {α β : Type} (f : α → β) {c : Prop} [Decidable c] {u u' v v' : α} (hu : f u' = f u)
    (hv : f v' = f v) : f (if c then u' else v') = f (if c then u else v) := by
  split
  · exact hu
  · exact hv

theorem lightPass_blankStored (s : State) : (lightPass s.blankStored).blankStored = (lightPass s).blankStored := by
  unfold lightPass
  rw [lightBody_blankStored]
  refine apply_ite_congr State.blankStored ?_ rfl
  rcases lightBody s with ⟨_ | v, t⟩ <;> rfl

theorem proxPass_blankStored (s : State) : (proxPass s.blankStored).blankStored = (proxPass s).blankStored := by
  unfold proxPass
  rw [proxBody_blankStored]
  refine apply_ite_congr State.blankStored ?_ rfl
  rcases proxBody s with ⟨_ | r, t⟩ <;> rfl

theorem irqStep_blankStored (s : State) : (irqStep s.blankStored).blankStored = (irqStep s).blankStored := by
  unfold irqStep
  cases read : (({ s with dispState := .dispatching } : State).answerAt 0).ok
  · rw [memRead_err read, memRead_err (s := { s.blankStored with dispState := .dispatching }) read]
    rfl
  · rw [memRead_ok read, memRead_ok (s := { s.blankStored with dispState := .dispatching }) read]
    rfl

/-- R15: through the view that blanks the eight fields, an operation other than GET_CONFIG does from a state what it does
from the blanked state. -/
theorem exec_blankStored {i : Instr} (notGet : i ≠ .getConfig) (s : State) :
    viewOutcome State.blankStored (exec i s.blankStored) = viewOutcome State.blankStored (exec i s) := by
  cases i
  case getConfig => exact absurd rfl notGet
  case lightOn => exact congrArg Host.Outcome.next (apply_ite_congr State.blankStored rfl rfl)
  case readLight =>
    have published : s.blankStored.luxPub = s.luxPub := rfl
    simp only [exec, execReadLight, published]
    split <;> rfl
  case calibrateLight =>
    have trim : lightTrim s.blankStored = lightTrim s := rfl
    simp only [exec, execCalibrateLight, trim]
    split <;> rfl
  case proxOn => exact congrArg Host.Outcome.next (apply_ite_congr State.blankStored rfl rfl)
  case calibrateProx =>
    simp only [exec, execCalibrateProx, calibration_blankStored]
    refine congrArg Host.Outcome.next (apply_ite_congr State.blankStored ?_ rfl)
    rcases calibration s with ⟨_ | c, t⟩ <;> rfl
  case setConfig record => exact congrArg Host.Outcome.next (apply_ite_congr State.blankStored rfl rfl)
  case sensorAuto addr xfer =>
    refine apply_ite_congr (viewOutcome State.blankStored) ?_ rfl
    cases xfer <;> rfl
  case irq => exact congrArg Host.Outcome.next (irqStep_blankStored s)
  case alsDeq => exact apply_ite_congr (viewOutcome State.blankStored) rfl rfl
  case alsExec =>
    exact apply_ite_congr (viewOutcome State.blankStored) (congrArg Host.Outcome.next (lightPass_blankStored s)) rfl
  case proxDeq => exact apply_ite_congr (viewOutcome State.blankStored) rfl rfl
  case proxExec =>
    exact apply_ite_congr (viewOutcome State.blankStored) (congrArg Host.Outcome.next (proxPass_blankStored s)) rfl
  all_goals rfl

/-- Settles O25: two states with one blanked state do what that state does. -/
theorem storedOnlyFieldsInfluenceNothing : Obligations.StoredOnlyFieldsInfluenceNothing := by
  intro i s s' notGet same
  rw [agreeThrough_iff, ← exec_blankStored notGet s, same, exec_blankStored notGet s']

/-! ## The armed pair -/

/-- R61: a record whose thresholds are ordered is stored. -/
theorem execSetConfig_stored {record : DeviceConfig} (ordered : record.proxLo < record.proxHi) (s : State) :
    exec (.setConfig record) s = .next ((s.commitConfig (normConfig record)).respondOk []) :=
  congrArg Host.Outcome.next (if_pos (decide_eq_true ordered))

/-- R81: a reading above the armed high threshold is near, whatever the event was. -/
theorem proxCompare_near {s : State} {raw : U16} (near : raw > s.pxArmHi) :
    proxCompare s raw = ⟨true, s.derived.satProx, s.cfg.proxLo, true⟩ := if_pos near

/-- R81: a reading below the armed low threshold and not above the high one is far. -/
theorem proxCompare_far {s : State} {raw : U16} (near : ¬ raw > s.pxArmHi) (far : raw < s.pxArmLo) :
    proxCompare s raw = ⟨false, s.cfg.proxHi, 0, true⟩ := (if_neg near).trans (if_pos far)

/-- R21: a transition arms an ordered pair where the configured low threshold is under SAT_PROX. -/
theorem transition_arms_ordered_pair {s : State} {raw : U16} (ordered : thresholdsOrdered s.cfg = true)
    (under : s.cfg.proxLo < s.derived.satProx) (outside : raw > s.pxArmHi ∨ raw < s.pxArmLo) :
    (proxCompare s raw).lo < (proxCompare s raw).hi := by
  by_cases near : raw > s.pxArmHi
  · rw [proxCompare_near near]
    exact under
  · rw [proxCompare_far near (outside.resolve_left near)]
    exact Nat.zero_lt_of_lt (of_decide_eq_true ordered)

/-- R128's record: TEST_CONFIG with the shortest proximity integration and `prox_lo` above its SAT_PROX of 1024. -/
def crossedRecord : DeviceConfig := { Config.testConfig with proxAdcTime := 255, proxLo := 2000 }

/-- Settles O35, with R128's record stored in `State.reset` and a reading just above its armed high threshold. -/
theorem armedPairOrderAfterTransition : Obligations.ArmedPairOrderAfterTransition := by
  refine ⟨fun s raw => transition_arms_ordered_pair, fun record s ordered crossed => ?_, ?_⟩
  · refine ⟨_, execSetConfig_stored ordered s, rfl, rfl, fun raw near => ?_⟩
    rw [proxCompare_near near]
    exact ⟨rfl, crossed⟩
  · have near : (9501 : U16) > ((State.reset.commitConfig (normConfig crossedRecord)).respondOk []).pxArmHi := by decide
    refine ⟨crossedRecord, State.reset, _, 9501, invariantsHoldAtReset, rfl, execSetConfig_stored (by decide) _, rfl, rfl,
      near, ?_⟩
    rw [proxCompare_near near]
    exact ⟨rfl, by decide⟩

end Sys2Proof.Machine
end

section
/-! SUPPORT. The statements on the sensor port's transactions: the byte pairs of a burst and of a word write (R7, R37), and
which transactions a step appends to the event history (R32 to R35). The second rests on one fact said once of every
operation, the bare rows among them: everything it can append (`exec_appendsOnly`). -/

namespace Sys2Proof.Machine

/-! ## Byte pairs -/

/-- R7's `bytes_le` in closed form: byte `k` is `v` shifted down by `8k` bits. -/
theorem bytesLe_eq_map (n v : Nat) : bytesLe n v = (List.range n).map fun k => BitVec.ofNat 8 (v >>> (8 * k)) := by
  induction n generalizing v with
  | zero => rfl
  | succ n ih =>
    have shifted (k : Nat) : (v / 256) >>> (8 * k) = v >>> (8 * (k + 1)) := by
      rw [show v / 256 = v >>> 8 from (Nat.shiftRight_eq_div_pow v 8).symm, ← Nat.shiftRight_add, Nat.mul_succ,
        Nat.add_comm]
    simp [bytesLe, ih, List.range_succ_eq_map, shifted, Function.comp_def]

/-- The bytes of a machine word are its consecutive octets. -/
theorem bytesLe_toNat {w : Nat} (n : Nat) (v : BitVec w) :
    bytesLe n v.toNat = (List.range n).map fun k => v.extractLsb' (8 * k) 8 :=
  bytesLe_eq_map n v.toNat

theorem getD_answerBytes (a : Answer) {n k : Nat} (within : k < n) :
    (answerBytes a n).getD k 0 = a.data.extractLsb' (8 * k) 8 := by
  simp [answerBytes, bytesLe_toNat, List.getD_eq_getElem?_getD, within]

/-- R7: two consecutive octets, low byte first, are sixteen consecutive bits. -/
theorem le16_extractLsb' {w : Nat} (v : BitVec w) (start : Nat) :
    le16 (v.extractLsb' start 8) (v.extractLsb' (start + 8) 8) = v.extractLsb' start 16 :=
  BitVec.extractLsb'_append_extractLsb'_eq_extractLsb' rfl

/-- R37: a channel that lies within a burst holds its own sixteen bits of the answer. -/
theorem burstChannel_answerBytes (a : Answer) {n k : Nat} (within : 2 * k + 1 < n) :
    burstChannel (answerBytes a n) k = a.data.extractLsb' (16 * k) 16 := by
  rw [burstChannel, getD_answerBytes a (Nat.lt_of_succ_lt within), getD_answerBytes a within, Nat.mul_succ,
    le16_extractLsb', ← Nat.mul_assoc]

/-- Settles O7: each channel lies within its burst. -/
theorem burstChannelsAreLittleEndianPairs : Obligations.BurstChannelsAreLittleEndianPairs := fun a =>
  ⟨burstChannel_answerBytes a (by decide), burstChannel_answerBytes a (by decide),
    burstChannel_answerBytes a (by decide), burstChannel_answerBytes a (by decide),
    burstChannel_answerBytes a (by decide), bytesLe_toNat 2⟩

/-! ## What an operation appends to the history -/

/-- `t`'s event history is that of `s` with entries appended that meet `P`; nothing is said of the registers. -/
def appendsOnly (P : PortEvent → Prop) (s t : State) : Prop :=
  ∃ es, t.history = s.history ++ es ∧ ∀ e ∈ es, P e

theorem appendsOnly_of_history_eq {P : PortEvent → Prop} {s t : State} (h : t.history = s.history) :
    appendsOnly P s t :=
  ⟨[], by simp [h], by simp⟩

/-- A body that only issues transactions only appends. -/
theorem appendsOnly_of_portFrame {P : PortEvent → Prop} {s t : State} (h : portFrame P s t) : appendsOnly P s t := by
  obtain ⟨es, rfl, own⟩ := h
  exact ⟨es, rfl, own⟩

theorem appendsOnly_mono {P Q : PortEvent → Prop} {s t : State} (h : appendsOnly P s t) (imp : ∀ e, P e → Q e) :
    appendsOnly Q s t := by
  obtain ⟨es, history, own⟩ := h
  exact ⟨es, history, fun e m => imp e (own e m)⟩

/-- The transactions an operation may issue, with the agent it issues them as (R33); an operation without a constructor
issues none. -/
inductive IssuedBy (p : Params) : Instr → PortEvent → Prop where
  /-- CALIBRATE_PROX (R83). -/
  | calibrate {e : PortEvent} (h : calTransaction p e) : IssuedBy p .calibrateProx e
  /-- IRQ (R86) reads the status register. -/
  | status (a : Answer) : IssuedBy p .irq (readEvent .triggerFrontEnd p.regStatus 1 a)
  /-- ALS_EXEC (R91). -/
  | light {e : PortEvent} (h : lightTransaction p e) : IssuedBy p .alsExec e
  /-- PROX_EXEC (R92). -/
  | prox {e : PortEvent} (h : proxTransaction p e) : IssuedBy p .proxExec e
  /-- SENSOR_BYTE run by itself (R53, log 8). -/
  | bareByte (addr : SensorAddr) (a : Answer) : IssuedBy p (.sensorByte addr) (readEvent .bare addr 1 a)
  /-- SENSOR_AUTO run by itself (R54, log 8): the 4-byte read. -/
  | bareRead4 (addr : SensorAddr) (a : Answer) : IssuedBy p (.sensorAuto addr .read4) (readEvent .bare addr 4 a)
  /-- The 6-byte read. -/
  | bareRead6 (addr : SensorAddr) (a : Answer) : IssuedBy p (.sensorAuto addr .read6) (readEvent .bare addr 6 a)
  /-- The word write. -/
  | bareWrite (addr : SensorAddr) (v : U16) (a : Answer) :
      IssuedBy p (.sensorAuto addr (.write v)) (writeEvent .bare addr v a)
  /-- SF_PROX_CLR run by itself (R55, log 8). -/
  | bareProxClr (a : Answer) : IssuedBy p .sfProxClr (functionEvent .bare sfProxCode a)
  /-- SF_ALS_CLR run by itself. -/
  | bareAlsClr (a : Answer) : IssuedBy p .sfAlsClr (functionEvent .bare sfAlsCode a)
  /-- SF_BOTH_CLR run by itself. -/
  | bareBothClr (a : Answer) : IssuedBy p .sfBothClr (functionEvent .bare sfBothCode a)

theorem irqStep_appendsOnly (s : State) : appendsOnly (IssuedBy s.params .irq) s (irqStep s) := by
  have frame : portFrame (IssuedBy s.params .irq) { s with dispState := .dispatching } _ :=
    onlyPort_memRead (n := 1) .status _
  have grown := appendsOnly_of_portFrame frame
  unfold irqStep
  split <;> rename_i read <;> rw [read] at grown <;> exact grown

theorem lightPass_appendsOnly (s : State) : appendsOnly (IssuedBy s.params .alsExec) s (lightPass s) := by
  have grown := appendsOnly_mono (appendsOnly_of_portFrame (lightBody_frame s)) fun _ => IssuedBy.light
  unfold lightPass
  split
  · split <;> rename_i body <;> rw [body] at grown <;> exact grown
  · exact appendsOnly_of_history_eq rfl

theorem proxPass_appendsOnly (s : State) : appendsOnly (IssuedBy s.params .proxExec) s (proxPass s) := by
  have grown := appendsOnly_mono (appendsOnly_of_portFrame (proxBody_frame s)) fun _ => IssuedBy.prox
  unfold proxPass
  split
  · split <;> rename_i body <;> rw [body] at grown <;> exact grown
  · exact appendsOnly_of_history_eq rfl

theorem calibrateProx_appendsOnly {s t : State} (run : exec .calibrateProx s = .next t) :
    appendsOnly (IssuedBy s.params .calibrateProx) s t := by
  have grown := appendsOnly_mono (appendsOnly_of_portFrame (calibration_frame s)) fun _ => IssuedBy.calibrate
  cases run
  split
  · split <;> rename_i result <;> rw [result] at grown <;> exact grown
  · exact appendsOnly_of_history_eq rfl

theorem autoTransfer_appendsOnly (addr : SensorAddr) (xfer : Xfer) (s : State) :
    appendsOnly (IssuedBy s.params (.sensorAuto addr xfer)) s (autoTransfer addr xfer s) := by
  apply appendsOnly_of_portFrame
  cases xfer with
  | read4 => exact onlyPort_memRead (.bareRead4 addr) s
  | read6 => exact onlyPort_memRead (.bareRead6 addr) s
  | write v => exact onlyPort_memWrite (.bareWrite addr v) s

/-- Whatever operation runs, it only appends to the history, and only the transactions it may issue. -/
theorem exec_appendsOnly {i : Instr} {s t : State} (run : exec i s = .next t) :
    appendsOnly (IssuedBy s.params i) s t := by
  cases i
  case calibrateProx => exact calibrateProx_appendsOnly run
  case irq =>
    cases run
    exact irqStep_appendsOnly s
  case alsExec =>
    cases next_of_guarded run nofun
    exact lightPass_appendsOnly s
  case proxExec =>
    cases next_of_guarded run nofun
    exact proxPass_appendsOnly s
  case sensorByte addr =>
    cases run
    exact appendsOnly_of_portFrame (onlyPort_memRead (.bareByte addr) s)
  case sensorAuto addr xfer =>
    cases next_of_guarded run nofun
    exact autoTransfer_appendsOnly addr xfer s
  case sfProxClr =>
    cases run
    exact appendsOnly_of_portFrame (onlyPort_busSF .bareProxClr s)
  case sfAlsClr =>
    cases run
    exact appendsOnly_of_portFrame (onlyPort_busSF .bareAlsClr s)
  case sfBothClr =>
    cases run
    exact appendsOnly_of_portFrame (onlyPort_busSF .bareBothClr s)
  case alsDeq | proxDeq =>
    cases next_of_guarded run nofun
    exact appendsOnly_of_history_eq rfl
  case lightOn | readLight | calibrateLight | proxOn | setConfig =>
    cases run
    split <;> exact appendsOnly_of_history_eq rfl
  all_goals
    cases run
    exact appendsOnly_of_history_eq rfl

/-! ## The block's own transactions -/

/-- The rows of format "sensor" (R52): as operations by themselves they are bare transactions, none of R85's (log 8). -/
def sensorRow : Instr → Bool
  | .sensorByte _ | .sensorAuto _ _ | .sfProxClr | .sfAlsClr | .sfBothClr => true
  | _ => false

theorem ownTransaction_statusRead (p : Params) (agent : Agent) (a : Answer) :
    ownTransaction p (readEvent agent p.regStatus 1 a) := .inl ⟨rfl, rfl⟩

theorem ownTransaction_burst {p : Params} {n : Nat} (agent : Agent) (a : Answer) (burst : n = 4 ∨ n = 6) :
    ownTransaction p (readEvent agent p.regData n a) := by
  refine .inr (.inl ⟨?_, burst⟩)
  rcases burst with rfl | rfl <;> rfl

theorem ownTransaction_threshold {p : Params} {addr : SensorAddr} (agent : Agent) (v : U16) (a : Answer)
    (threshold : addr = p.regAilt ∨ addr = p.regAiht ∨ addr = p.regPilt ∨ addr = p.regPiht) :
    ownTransaction p (writeEvent agent addr v a) := by
  refine .inr (.inr (.inl ⟨?_, rfl, rfl⟩))
  rcases threshold with rfl | rfl | rfl | rfl <;> simp [writeEvent]

theorem ownTransaction_clear {p : Params} {code : SensorAddr} (agent : Agent) (a : Answer)
    (clear : code = sfProxCode ∨ code = sfAlsCode) : ownTransaction p (functionEvent agent code a) := by
  refine .inr (.inr (.inr ⟨?_, rfl, rfl⟩))
  rcases clear with rfl | rfl
  · exact .inl rfl
  · exact .inr rfl

theorem calTransaction_own {p : Params} {e : PortEvent} (h : calTransaction p e) : ownTransaction p e := by
  rcases h with ⟨a, rfl⟩ | ⟨v, a, rfl⟩ | ⟨v, a, rfl⟩
  · exact ownTransaction_burst _ a (.inr rfl)
  · exact ownTransaction_threshold _ v a (by simp)
  · exact ownTransaction_threshold _ v a (by simp)

theorem lightTransaction_own {p : Params} {e : PortEvent} (h : lightTransaction p e) : ownTransaction p e := by
  rcases h with ⟨a, rfl⟩ | ⟨v, a, rfl⟩ | ⟨v, a, rfl⟩ | ⟨a, rfl⟩
  · exact ownTransaction_burst _ a (.inl rfl)
  · exact ownTransaction_threshold _ v a (by simp)
  · exact ownTransaction_threshold _ v a (by simp)
  · exact ownTransaction_clear _ a (.inr rfl)

theorem proxTransaction_own {p : Params} {e : PortEvent} (h : proxTransaction p e) : ownTransaction p e := by
  rcases h with ⟨a, rfl⟩ | ⟨v, a, rfl⟩ | ⟨v, a, rfl⟩ | ⟨a, rfl⟩
  · exact ownTransaction_burst _ a (.inr rfl)
  · exact ownTransaction_threshold _ v a (by simp)
  · exact ownTransaction_threshold _ v a (by simp)
  · exact ownTransaction_clear _ a (.inl rfl)

/-- R35: what an operation other than a bare row issues is one of the block's own transactions. -/
theorem IssuedBy.own {p : Params} {i : Instr} {e : PortEvent} (h : IssuedBy p i e) (notBare : sensorRow i = false) :
    ownTransaction p e := by
  cases h with
  | calibrate h => exact calTransaction_own h
  | status a => exact ownTransaction_statusRead p _ a
  | light h => exact lightTransaction_own h
  | prox h => exact proxTransaction_own h
  | bareByte | bareRead4 | bareRead6 | bareWrite | bareProxClr | bareAlsClr | bareBothClr => cases notBare

theorem exec_appendsOnly_own {i : Instr} {s t : State} (notBare : sensorRow i = false) (run : exec i s = .next t) :
    appendsOnly (ownTransaction s.params) s t :=
  appendsOnly_mono (exec_appendsOnly run) fun _ issued => issued.own notBare

/-! ## One turn -/

theorem plainCommand_not_sensorRow {op : Byte} {i : Instr} (h : plainCommand op = some i) : sensorRow i = false := by
  unfold plainCommand at h
  split at h <;> cases h <;> rfl

/-- R44, R50: no host command decodes to a row of format "sensor". -/
theorem decodeHost_not_sensorRow {bytes : List Byte} {i : Instr} (h : decodeHost bytes = .ok i) :
    sensorRow i = false := by
  unfold decodeHost at h
  split at h
  · cases h
  · split at h
    · split at h <;> cases h
      rfl
    · split at h
      · cases h
      · rename_i plain
        split at h <;> cases h
        exact plainCommand_not_sensorRow plain

theorem runCommand_appendsOnly_own {bytes : List Byte} {s t : State} (run : runCommand bytes s = .next t) :
    appendsOnly (ownTransaction s.params) s t := by
  unfold runCommand at run
  split at run
  · rename_i decoded
    exact exec_appendsOnly_own (decodeHost_not_sensorRow decoded) run
  · cases run
    exact appendsOnly_of_history_eq rfl

theorem runIf_appendsOnly_own {enabled : Bool} {i : Instr} {s t : State} (notBare : sensorRow i = false)
    (run : runIf enabled i s = .next t) : appendsOnly (ownTransaction s.params) s t := by
  cases enabled
  · rw [runIf_false rfl] at run
    cases run
    exact appendsOnly_of_history_eq rfl
  · rw [runIf_true rfl] at run
    exact exec_appendsOnly_own notBare run

/-- R32, R35: whatever the environment chooses, a turn appends only the block's own transactions; issuing a command and a
reset event append none (R123). -/
theorem runPick_appendsOnly_own {p : Pick} {s t : State} (run : runPick p s = .next t) :
    appendsOnly (ownTransaction s.params) s t := by
  cases p
  case issue command =>
    cases run
    unfold State.issueCommand
    split <;> exact appendsOnly_of_history_eq rfl
  case host =>
    change runHost s = .next t at run
    unfold runHost at run
    split at run
    · exact runCommand_appendsOnly_own run
    · cases run
      exact appendsOnly_of_history_eq rfl
  case reset =>
    cases run
    exact appendsOnly_of_history_eq rfl
  all_goals exact runIf_appendsOnly_own rfl run

/-- Settles O13: with no bare transaction asked for, a step is a turn, and using its choice leaves the history and the
parameters. -/
theorem onlyOwnTransactionsAreIssued : Obligations.OnlyOwnTransactionsAreIssued := by
  intro s t noRequest run
  rw [step_of_no_request noRequest] at run
  have own : appendsOnly (ownTransaction s.params) s.afterPick t := runPick_appendsOnly_own run
  exact own

end Sys2Proof.Machine
end

section
/-! SUPPORT. The statements on the two encoded interfaces and on the operations that come in them. Byte strings and
numbers, the record's layout (R49), the sensor command byte (R52) and the host commands (R44) each get their encoder and
decoder lemmas once; the two directions of the round trip are assembled from them, and the statements on illegal commands
(R45) and on emitted command bytes (R56) use the round trip. -/

namespace Sys2Proof.Machine

/-! ## Byte strings and numbers (R7) -/

theorem natLe_lt (bytes : List Byte) : natLe bytes < 256 ^ bytes.length := by
  induction bytes with
  | nil => exact Nat.one_pos
  | cons b rest ih =>
    have hb := b.isLt
    rw [natLe, List.length_cons, Nat.pow_succ]
    omega

theorem bytesLe_natLe (bytes : List Byte) : bytesLe bytes.length (natLe bytes) = bytes := by
  induction bytes with
  | nil => rfl
  | cons b rest ih =>
    have hb := b.isLt
    have low : BitVec.ofNat 8 (natLe (b :: rest)) = b := by
      apply BitVec.eq_of_toNat_eq
      rw [BitVec.toNat_ofNat, natLe]
      omega
    have high : natLe (b :: rest) / 256 = natLe rest := by
      rw [natLe]
      omega
    rw [List.length_cons, bytesLe, low, high, ih]

theorem natLe_bytesLe (n v : Nat) : natLe (bytesLe n v) = v % 256 ^ n := by
  induction n generalizing v with
  | zero => simp [bytesLe, natLe, Nat.mod_one]
  | succ n ih =>
    have split : 256 ^ (n + 1) = 256 * 256 ^ n := Nat.pow_succ'
    rw [bytesLe, natLe, ih, BitVec.toNat_ofNat, split, Nat.mod_mul]

/-- A word of `n` bytes is the number its bytes hold. -/
theorem ofNat_natLe_bytesLe {w n : Nat} (width : w = 8 * n) (v : BitVec w) :
    BitVec.ofNat w (natLe (bytesLe n v.toNat)) = v := by
  subst width
  have range : (256 : Nat) ^ n = 2 ^ (8 * n) := by rw [Nat.pow_mul]
  rw [natLe_bytesLe, range, Nat.mod_eq_of_lt v.isLt, BitVec.ofNat_toNat, BitVec.setWidth_eq]

/-- R37: a word's two bytes, low byte first, give the word back. -/
theorem bytesLe_le16 (lo hi : Byte) : bytesLe 2 (le16 lo hi).toNat = [lo, hi] := by
  have low : (le16 lo hi).extractLsb' 0 8 = lo := BitVec.extractLsb'_append_eq_right
  have high : (le16 lo hi).extractLsb' 8 8 = hi := BitVec.extractLsb'_append_eq_left
  calc bytesLe 2 (le16 lo hi).toNat = [(le16 lo hi).extractLsb' 0 8, (le16 lo hi).extractLsb' 8 8] := bytesLe_toNat 2 _
    _ = [lo, hi] := by rw [low, high]

theorem le16_bytes (v : U16) : le16 (v.extractLsb' 0 8) (v.extractLsb' 8 8) = v :=
  (le16_extractLsb' v 0).trans BitVec.extractLsb'_eq_self

/-! ## The DeviceConfig record (R49) -/

@[simp] theorem recordField_zero (rec : List Byte) (o : Nat) : recordField rec o 0 = 0 := by
  simp [recordField, natLe]

theorem recordField_succ (rec : List Byte) (o k : Nat) :
    recordField rec o (k + 1) = (rec.getD o 0).toNat + 256 * recordField rec (o + 1) k := by
  by_cases within : o < rec.length
  · rw [recordField, List.drop_eq_getElem_cons within, List.take_succ_cons, natLe, List.getD_eq_getElem _ _ within,
      recordField]
  · have past : rec.length ≤ o := Nat.le_of_not_lt within
    rw [recordField, recordField, List.drop_eq_nil_of_le past, List.drop_eq_nil_of_le (Nat.le_succ_of_le past),
      List.getD_eq_default _ _ past]
    simp [natLe]

theorem recordField_one (rec : List Byte) (o : Nat) : recordField rec o 1 = (rec.getD o 0).toNat := by
  simp [recordField_succ]

theorem recordField_two (rec : List Byte) (o : Nat) :
    recordField rec o 2 = (rec.getD o 0).toNat + (rec.getD (o + 1) 0).toNat * 2 ^ 8 := by
  rw [recordField_succ, recordField_one]
  omega

theorem recordField_four (rec : List Byte) (o : Nat) :
    recordField rec o 4 = (rec.getD o 0).toNat + (rec.getD (o + 1) 0).toNat * 2 ^ 8
      + (rec.getD (o + 2) 0).toNat * 2 ^ 16 + (rec.getD (o + 3) 0).toNat * 2 ^ 24 := by
  simp only [recordField_succ, recordField_zero, Nat.add_assoc, Nat.reduceAdd]
  omega

/-- A field of `k` bytes fits a word of `k` bytes. -/
theorem toNat_ofNat_recordField {w k : Nat} (width : w = 8 * k) (rec : List Byte) (o : Nat) :
    (BitVec.ofNat w (recordField rec o k)).toNat = recordField rec o k := by
  rw [BitVec.toNat_ofNat]
  refine Nat.mod_eq_of_lt ?_
  calc natLe ((rec.drop o).take k) < 256 ^ ((rec.drop o).take k).length := natLe_lt _
    _ ≤ 256 ^ k := Nat.pow_le_pow_right (by decide) (List.length_take_le ..)
    _ = 2 ^ w := by rw [width, Nat.pow_mul]

/-- The one-byte field at an offset is the byte there. -/
theorem ofNat_recordField_one (rec : List Byte) (o : Nat) : BitVec.ofNat 8 (recordField rec o 1) = rec.getD o 0 := by
  rw [recordField_one, BitVec.ofNat_toNat, BitVec.setWidth_eq]

/-- A field inside the record, put back into bytes. -/
theorem bytesLe_recordField {rec : List Byte} {o k : Nat} (within : o + k ≤ rec.length) :
    bytesLe k (recordField rec o k) = (rec.drop o).take k := by
  have length : ((rec.drop o).take k).length = k := by
    rw [List.length_take, List.length_drop]
    omega
  calc bytesLe k (recordField rec o k)
      = bytesLe ((rec.drop o).take k).length (natLe ((rec.drop o).take k)) := by rw [length, recordField]
    _ = (rec.drop o).take k := bytesLe_natLe _

/-- Consecutive fields of the given byte widths, from an offset on, each read and put back into bytes. -/
def repackFields (rec : List Byte) : (o : Nat) → (widths : List Nat) → List Byte
  | _, [] => []
  | o, k :: widths => bytesLe k (recordField rec o k) ++ repackFields rec (o + k) widths

/-- Fields packed with no padding cover their part of the record. -/
theorem repackFields_eq {rec : List Byte} {o : Nat} {widths : List Nat} (within : o + widths.sum ≤ rec.length) :
    repackFields rec o widths = (rec.drop o).take widths.sum := by
  induction widths generalizing o with
  | nil => simp [repackFields]
  | cons k widths ih =>
    rw [List.sum_cons] at within ⊢
    rw [repackFields, bytesLe_recordField (by omega), ih (by omega), List.take_add, List.drop_drop]

/-- R49: the byte widths of the sixteen fields. -/
def configWidths : List Nat := [4, 2, 2, 2, 1, 1, 1, 2, 2, 1, 1, 1, 1, 1, 1, 1]

/-- Decoding and encoding a record is repacking the fields of its table. -/
theorem encodeConfig_decodeConfig_eq_repackFields (rec : List Byte) :
    encodeConfig (decodeConfig rec) = repackFields rec 0 configWidths := by
  have word (o : Nat) : (BitVec.ofNat 16 (recordField rec o 2)).toNat = recordField rec o 2 :=
    toNat_ofNat_recordField rfl rec o
  have target : (BitVec.ofNat 32 (recordField rec 0 4)).toNat = recordField rec 0 4 :=
    toNat_ofNat_recordField rfl rec 0
  have octet (o : Nat) (rest : List Byte) :
      BitVec.ofNat 8 (recordField rec o 1) :: rest = bytesLe 1 (recordField rec o 1) ++ rest := rfl
  simp only [encodeConfig, decodeConfig, target, word, octet, configWidths, repackFields, List.append_assoc,
    List.nil_append]

/-- R49: "Every byte pattern decodes to some record", and to one that encodes to it. -/
theorem encodeConfig_decodeConfig {rec : List Byte} (length : rec.length = 24) :
    encodeConfig (decodeConfig rec) = rec := by
  rw [encodeConfig_decodeConfig_eq_repackFields, repackFields_eq (Nat.le_of_eq length.symm)]
  exact List.take_of_length_le (Nat.le_of_eq length)

theorem encodeConfig_length (c : DeviceConfig) : (encodeConfig c).length = configBytes := rfl

/-- Each field of an encoded record is read at the place where it was written. -/
theorem decodeConfig_encodeConfig (c : DeviceConfig) : decodeConfig (encodeConfig c) = c := by
  have word (v : U16) : BitVec.ofNat 16 (natLe (bytesLe 2 v.toNat)) = v :=
    ofNat_natLe_bytesLe (n := 2) rfl v
  have octet (v : Byte) : BitVec.ofNat 8 (natLe [v]) = v := by simp [natLe]
  obtain ⟨calTarget, alsTime, scale, gainTrim, filterDepth, filterCount, gain, proxHi, proxLo, proxIntTime, proxAdcTime,
    proxWaitTime, proxIntrFilter, proxConfig, proxPulseCnt, proxGain⟩ := c
  exact DeviceConfig.mk.injEq .. |>.mpr ⟨ofNat_natLe_bytesLe (n := 4) rfl calTarget, word alsTime, word scale,
    word gainTrim, octet filterDepth, octet filterCount, octet gain, word proxHi, word proxLo, octet proxIntTime,
    octet proxAdcTime, octet proxWaitTime, octet proxIntrFilter, octet proxConfig, octet proxPulseCnt, octet proxGain⟩

/-- Settles O4: each field by its width, and the repacking of all sixteen. -/
theorem configRecordLayout : Obligations.ConfigRecordLayout := by
  intro rec length
  have word (o : Nat) : (BitVec.ofNat 16 (recordField rec o 2)).toNat
      = (rec.getD o 0).toNat + (rec.getD (o + 1) 0).toNat * 2 ^ 8 :=
    (toNat_ofNat_recordField rfl rec o).trans (recordField_two rec o)
  have octet := ofNat_recordField_one rec
  have target := (toNat_ofNat_recordField (w := 32) (k := 4) rfl rec 0).trans (recordField_four rec 0)
  exact ⟨target, word 4, word 6, word 8, octet 10, octet 11, octet 12, word 13, word 15, octet 17, octet 18, octet 19,
    octet 20, octet 21, octet 22, octet 23, encodeConfig_decodeConfig length⟩

/-! ## The sensor command byte (R52 to R55) -/

/-- R52: a command byte with its register-select bit set, from its type and its address or function code. -/
def commandByte (type : BitVec 2) (field : SensorAddr) : Byte := (1#1 ++ type) ++ field

theorem byteModeCommand_eq (addr : SensorAddr) : byteModeCommand addr = commandByte 0 addr := rfl

theorem autoModeCommand_eq (addr : SensorAddr) : autoModeCommand addr = commandByte 1 addr := rfl

theorem functionCommand_eq (code : SensorAddr) : functionCommand code = commandByte 3 code := rfl

@[simp] theorem commandField_commandByte (type : BitVec 2) (field : SensorAddr) :
    commandField (commandByte type field) = field :=
  BitVec.extractLsb'_append_eq_right

@[simp] theorem commandType_commandByte (type : BitVec 2) (field : SensorAddr) :
    commandType (commandByte type field) = type :=
  calc (commandByte type field).extractLsb' 5 2
      = (1#1 ++ type).extractLsb' 0 2 := BitVec.extractLsb'_append_eq_of_le (Nat.le_refl 5)
    _ = type := BitVec.extractLsb'_append_eq_right

@[simp] theorem getLsbD_commandByte (type : BitVec 2) (field : SensorAddr) :
    (commandByte type field).getLsbD 7 = true := by
  rw [commandByte, BitVec.getLsbD_append, if_neg (by decide), BitVec.getLsbD_append, if_neg (by decide)]
  rfl

/-- The three parts of a command byte make it up. -/
theorem commandByte_of_select {cmd : Byte} (select : cmd.getLsbD 7 = true) :
    commandByte (commandType cmd) (commandField cmd) = cmd := by
  have top : cmd.extractLsb' 7 1 = 1#1 := by
    ext i hi
    obtain rfl : i = 0 := Nat.lt_one_iff.mp hi
    simpa using select
  have high : 1#1 ++ commandType cmd = cmd.extractLsb' 5 3 := by
    rw [← top]
    exact BitVec.extractLsb'_append_extractLsb'_eq_extractLsb' rfl
  rw [commandByte, high]
  exact (BitVec.extractLsb'_append_extractLsb'_eq_extractLsb' rfl).trans BitVec.extractLsb'_eq_self

theorem byteModeCommand_eq_or (addr : SensorAddr) : byteModeCommand addr = 0x80 ||| addr.setWidth 8 := by
  revert addr
  decide

theorem autoModeCommand_eq_or (addr : SensorAddr) : autoModeCommand addr = 0xA0 ||| addr.setWidth 8 := by
  revert addr
  decide

/-! ## The decoder of sensor-port transactions (R52 to R56) -/

theorem decodeSensor_byteMode (addr : SensorAddr) (written : List Byte) (count : Nat) :
    decodeSensor ⟨byteModeCommand addr :: written, count⟩ = decodeByteMode addr written count := by
  simp [decodeSensor, byteModeCommand_eq]

theorem decodeSensor_autoMode (addr : SensorAddr) (written : List Byte) (count : Nat) :
    decodeSensor ⟨autoModeCommand addr :: written, count⟩ = decodeAutoMode addr written count := by
  simp [decodeSensor, autoModeCommand_eq]

/-- R54: the request of an auto-increment transfer decodes to it. -/
theorem decodeSensor_encodeAuto (addr : SensorAddr) (xfer : Xfer) :
    decodeSensor (encodeAuto addr xfer) = .ok (.sensorAuto addr xfer) := by
  cases xfer with
  | read4 => exact decodeSensor_autoMode addr [] 4
  | read6 => exact decodeSensor_autoMode addr [] 6
  | write v =>
    calc decodeSensor ⟨autoModeCommand addr :: bytesLe 2 v.toNat, 2⟩
        = decodeAutoMode addr (bytesLe 2 v.toNat) 2 := decodeSensor_autoMode ..
      _ = .ok (.sensorAuto addr (.write (le16 (v.extractLsb' 0 8) (v.extractLsb' 8 8)))) := by rw [bytesLe_toNat]; rfl
      _ = .ok (.sensorAuto addr (.write v)) := by rw [le16_bytes]

theorem encode_of_decodeByteMode {addr : SensorAddr} {written : List Byte} {count : Nat} {i : Instr}
    (decoded : decodeByteMode addr written count = .ok i) :
    encode i = some (.sensor ⟨byteModeCommand addr :: written, count⟩) := by
  unfold decodeByteMode at decoded
  split at decoded
  · rename_i read
    cases decoded
    simp only [Bool.and_eq_true, List.isEmpty_iff, beq_iff_eq] at read
    obtain ⟨rfl, rfl⟩ := read
    rfl
  · cases decoded

theorem encode_of_decodeAutoMode {addr : SensorAddr} {written : List Byte} {count : Nat} {i : Instr}
    (decoded : decodeAutoMode addr written count = .ok i) :
    encode i = some (.sensor ⟨autoModeCommand addr :: written, count⟩) := by
  unfold decodeAutoMode at decoded
  split at decoded
  · split at decoded
    case isTrue four =>
      cases decoded
      rw [four]
      rfl
    case isFalse =>
      split at decoded <;> cases decoded
      rename_i six
      rw [six]
      rfl
  · rename_i lo hi
    split at decoded <;> cases decoded
    rename_i two
    rw [two, encode, encodeAuto, bytesLe_le16]
  · cases decoded

theorem encode_of_decodeFunction {code : SensorAddr} {written : List Byte} {count : Nat} {i : Instr}
    (decoded : decodeFunction code written count = .ok i) :
    encode i = some (.sensor ⟨functionCommand code :: written, count⟩) := by
  unfold decodeFunction at decoded
  split at decoded
  · rename_i noData
    simp only [Bool.and_eq_true, List.isEmpty_iff, beq_iff_eq] at noData
    obtain ⟨rfl, rfl⟩ := noData
    split at decoded <;> cases decoded <;> rename_i value
    · rw [show code = 0x05 from BitVec.eq_of_toNat_eq value]
      rfl
    · rw [show code = 0x06 from BitVec.eq_of_toNat_eq value]
      rfl
    · rw [show code = 0x07 from BitVec.eq_of_toNat_eq value]
      rfl
  · cases decoded

/-- A request decodes by the type of its command byte, whose three parts make it up. -/
theorem encode_of_decodeSensor {req : PortReq} {i : Instr} (decoded : decodeSensor req = .ok i) :
    encode i = some (.sensor req) := by
  obtain ⟨bus, count⟩ := req
  cases bus with
  | nil => cases decoded
  | cons cmd written =>
    simp only [decodeSensor] at decoded
    split at decoded
    · rename_i select
      rw [← commandByte_of_select select]
      split at decoded
      case h_1 type =>
        rw [show commandType cmd = 0 from BitVec.eq_of_toNat_eq type, ← byteModeCommand_eq]
        exact encode_of_decodeByteMode decoded
      case h_2 type =>
        rw [show commandType cmd = 1 from BitVec.eq_of_toNat_eq type, ← autoModeCommand_eq]
        exact encode_of_decodeAutoMode decoded
      case h_3 type =>
        rw [show commandType cmd = 3 from BitVec.eq_of_toNat_eq type, ← functionCommand_eq]
        exact encode_of_decodeFunction decoded
      case h_4 => cases decoded
    · cases decoded

/-! ## The decoder of host commands (R44, R45, R50) -/

theorem encode_of_plainCommand {op : Byte} {i : Instr} (plain : plainCommand op = some i) :
    encode i = some (.host [op]) := by
  unfold plainCommand at plain
  split at plain <;> cases plain
  all_goals
    rename_i value
    exact congrArg (fun b => some (Request.host [b])) (BitVec.eq_of_toNat_eq value.symm)

/-- R44: the opcodes with no request payload are 0x01 to 0x0D without SET_CONFIG's. -/
theorem plainCommand_isSome_iff (op : Byte) :
    (plainCommand op).isSome = true ↔ op.toNat ≠ 0 ∧ op.toNat < 0x0E ∧ op ≠ setConfigOpcode := by
  have distinct : op ≠ setConfigOpcode ↔ op.toNat ≠ 0x0B := not_congr BitVec.toNat_inj.symm
  rw [distinct]
  unfold plainCommand
  split
  case h_13 =>
    simp only [imp_false] at *
    simp only [Option.isSome_none, Bool.false_eq_true, false_iff]
    omega
  all_goals
    simp only [Option.isSome_some, true_iff]
    omega

/-- R50: everything that the host decoder accepts, and what it reads. -/
theorem decodeHost_ok_iff {op : Byte} {payload : List Byte} {i : Instr} :
    decodeHost (op :: payload) = .ok i
      ↔ (op = setConfigOpcode ∧ payload.length = configBytes ∧ Instr.setConfig (decodeConfig payload) = i)
        ∨ (plainCommand op = some i ∧ payload = []) := by
  by_cases set : op = setConfigOpcode
  · subst set
    have notPlain : plainCommand setConfigOpcode = none := rfl
    by_cases length : payload.length = configBytes <;> simp [decodeHost, notPlain, length]
  · cases plain : plainCommand op with
    | none => simp [decodeHost, set, plain]
    | some j => by_cases empty : payload = [] <;> simp [decodeHost, set, plain, empty]

theorem encode_of_decodeHost {bytes : List Byte} {i : Instr} (decoded : decodeHost bytes = .ok i) :
    encode i = some (.host bytes) := by
  cases bytes with
  | nil => cases decoded
  | cons op payload =>
    rcases decodeHost_ok_iff.mp decoded with ⟨rfl, length, rfl⟩ | ⟨plain, rfl⟩
    · rw [encode, encodeConfig_decodeConfig length]
    · exact encode_of_plainCommand plain

/-! ## The round trips -/

/-- Settles O3, for each of the two interfaces. -/
theorem encodeOfDecodeIsTheRequest : Obligations.EncodeOfDecodeIsTheRequest := by
  intro r i decoded
  cases r with
  | host bytes => exact encode_of_decodeHost decoded
  | sensor req => exact encode_of_decodeSensor decoded

/-- The encoding of any operation decodes to it, the auto transfers past 0x1F that R38 never issues among them. -/
theorem decode_of_encode {i : Instr} {r : Request} (encoded : encode i = some r) : decode r = .ok i := by
  cases i
  case setConfig record =>
    cases encoded
    exact decodeHost_ok_iff.mpr (.inl ⟨rfl, encodeConfig_length record, by rw [decodeConfig_encodeConfig]⟩)
  case sensorByte addr =>
    cases encoded
    exact decodeSensor_byteMode addr [] 1
  case sensorAuto addr xfer =>
    cases encoded
    exact decodeSensor_encodeAuto addr xfer
  case irq | alsDeq | alsExec | proxDeq | proxExec => cases encoded
  all_goals
    cases encoded
    rfl

/-- Settles O2. -/
theorem decodeOfEncodeIsTheOperation : Obligations.DecodeOfEncodeIsTheOperation :=
  fun _ _ _ encoded => decode_of_encode encoded

/-- Settles O1, by running the decoders on the words. -/
theorem tableWordsDecode : Obligations.TableWordsDecode := by
  unfold Obligations.TableWordsDecode
  decide

/-- A value found in a table has what all its values have. -/
theorem of_lookup_eq_some {α β : Type} [BEq α] [LawfulBEq α] {P : β → Prop} {table : List (α × β)} {k : α} {b : β}
    (all : ∀ p ∈ table, P p.2) (found : table.lookup k = some b) : P b := by
  obtain ⟨before, after, rfl, -⟩ := List.lookup_eq_some_iff.mp found
  exact all (k, b) (by simp)

/-- R44: a mnemonic with no operand names a one-byte command. -/
theorem encode_of_asmCommand {name : String} {i : Instr} (h : asmCommand name = some i) :
    ∃ op, encode i = some (.host [op]) :=
  of_lookup_eq_some (P := fun i => ∃ op, encode i = some (.host [op])) (by simp [encode]) h

/-- Settles O8: the line loads the encoding of its command, which decodes to it. -/
theorem mnemonicLineLoadsItsCommand : Obligations.MnemonicLineLoadsItsCommand := by
  intro records name i s named
  obtain ⟨op, encoded⟩ := encode_of_asmCommand named
  refine ⟨[op], decode_of_encode encoded, ?_⟩
  simp [loadLine, asmPicks, asmHost, named, commandPicks, encoded]

/-! ## Illegal commands and the host's turn (R43, R45, R85) -/

/-- R45: the commands that are not illegal are the plain opcodes alone and SET_CONFIG with its record. -/
theorem not_illegalCommand_iff (op : Byte) (payload : List Byte) :
    ¬ illegalCommand op payload
      ↔ (op = setConfigOpcode ∧ payload.length = configBytes) ∨ ((plainCommand op).isSome = true ∧ payload = []) := by
  by_cases set : op = setConfigOpcode
  · subst set
    simp [illegalCommand, plainCommand_isSome_iff, setConfigOpcode, configBytes]
  · have notSet : ¬ op = 11#8 := set
    simp [illegalCommand, plainCommand_isSome_iff, set, notSet, and_assoc]

/-- Settles O5: both sides are the commands with a meaning. -/
theorem hostDecoderRefusesExactlyIllegalCommands : Obligations.HostDecoderRefusesExactlyIllegalCommands := by
  refine ⟨rfl, fun op payload => ?_⟩
  simp only [not_illegalCommand_iff, decodeHost_ok_iff, Option.isSome_iff_exists, exists_or, exists_and_left,
    exists_and_right, exists_eq', and_true]

theorem runCommand_of_decodeHost {bytes : List Byte} {i : Instr} (decoded : decodeHost bytes = .ok i) (s : State) :
    runCommand bytes s = exec i s := by
  simp [runCommand, decoded]

theorem runCommand_illegal {op : Byte} {payload : List Byte} (illegal : illegalCommand op payload) (s : State) :
    runCommand (op :: payload) s = .next s.respondIllegal := by
  unfold runCommand
  split
  · rename_i i decoded
    exact absurd illegal ((hostDecoderRefusesExactlyIllegalCommands.2 op payload).mp ⟨i, decoded⟩)
  · rfl

/-- R85: on the host's turn the outstanding command is run, on the state with the turn used. -/
theorem step_of_host {s : State} {bytes : List Byte} (noRequest : s.portReq = none) (turn : s.nextPick = .host)
    (port : s.hostCmd = some bytes) : step s = runCommand bytes s.afterPick := by
  rw [step_of_no_request noRequest, turn]
  simp [runPick, runHost, port]

/-- Settles O6. -/
theorem illegalCommandCompletesWithStatusFive : Obligations.IllegalCommandCompletesWithStatusFive := by
  intro s op payload noRequest turn port illegal
  rw [step_of_host noRequest turn port, runCommand_illegal illegal]
  rfl

/-- Settles O9. -/
theorem stepRunsDecodedHostCommand : Obligations.StepRunsDecodedHostCommand := by
  intro s bytes i noRequest turn port decoded
  rw [step_of_host noRequest turn port, runCommand_of_decodeHost decoded]

/-! ## The command bytes that the block may emit (R56) -/

theorem emittable_byteModeCommand (addr : SensorAddr) : emittable (byteModeCommand addr) = true := by
  simp [emittable, byteModeCommand_eq]

theorem emittable_autoModeCommand (addr : SensorAddr) : emittable (autoModeCommand addr) = true := by
  simp [emittable, autoModeCommand_eq]

theorem emittable_readCommand (addr : SensorAddr) (n : Nat) : emittable (readCommand addr n) = true := by
  unfold readCommand
  split
  · exact emittable_byteModeCommand addr
  · exact emittable_autoModeCommand addr

/-- R55: the three special functions. -/
theorem emittable_functionCommand {code : SensorAddr} (assigned : code = 5 ∨ code = 6 ∨ code = 7) :
    emittable (functionCommand code) = true := by
  rcases assigned with rfl | rfl | rfl <;> decide

theorem ownTransaction_emittable {p : Params} {e : PortEvent} (own : ownTransaction p e) : emittable e.cmd = true := by
  rcases own with ⟨cmd, -⟩ | ⟨cmd, -⟩ | ⟨cmd | cmd | cmd | cmd, -⟩ | ⟨cmd | cmd, -⟩ <;> rw [cmd]
  · exact emittable_byteModeCommand _
  iterate 5 exact emittable_autoModeCommand _
  · rfl
  · rfl

/-- R56: whatever an operation issues, a bare row among them, its command byte may be emitted. -/
theorem IssuedBy.emittable {p : Params} {i : Instr} {e : PortEvent} (issued : IssuedBy p i e) :
    emittable e.cmd = true := by
  cases issued with
  | calibrate h => exact ownTransaction_emittable (calTransaction_own h)
  | light h => exact ownTransaction_emittable (lightTransaction_own h)
  | prox h => exact ownTransaction_emittable (proxTransaction_own h)
  | status | bareByte | bareRead4 | bareRead6 => exact emittable_readCommand ..
  | bareWrite addr => exact emittable_autoModeCommand addr
  | bareProxClr | bareAlsClr | bareBothClr => exact emittable_functionCommand (by decide)

/-- Settles O14: a turn appends the block's own transactions, a bare request those of its row. -/
theorem emittedCommandBytesAreLegal : Obligations.EmittedCommandBytesAreLegal := by
  intro s t run
  change appendsOnly (fun e => emittable e.cmd = true) s t
  cases request : s.portReq with
  | none =>
    have own := onlyOwnTransactionsAreIssued s t request run
    exact appendsOnly_mono own fun _ => ownTransaction_emittable
  | some req =>
    rw [step_of_request request] at run
    unfold runPort at run
    split at run
    · have legal := appendsOnly_mono (exec_appendsOnly run) fun _ => IssuedBy.emittable
      exact legal
    · cases run

theorem emittable_iff (cmd : Byte) : emittable cmd = true ↔ ¬ neverEmittedCommand cmd := by
  simp only [emittable, neverEmittedCommand, Bool.and_eq_true, Bool.or_eq_true, bne_iff_ne, beq_iff_eq, not_or,
    not_and_or, Bool.not_eq_false, ne_eq, not_not, or_assoc, and_assoc]

/-- The request of an operation with a sensor encoding begins with a command byte that may be emitted. -/
theorem emittable_of_encode {i : Instr} {cmd : Byte} {rest : List Byte} {count : Nat}
    (encoded : encode i = some (.sensor ⟨cmd :: rest, count⟩)) : emittable cmd = true := by
  cases i
  case sensorByte addr =>
    cases encoded
    exact emittable_byteModeCommand addr
  case sensorAuto addr xfer =>
    cases xfer <;> cases encoded <;> exact emittable_autoModeCommand addr
  case sfProxClr | sfAlsClr | sfBothClr =>
    cases encoded
    rfl
  all_goals cases encoded

/-- Settles O11: a request that decodes is an encoding, and its command byte may be emitted. -/
theorem bareTransactionRunsOrIsRefused : Obligations.BareTransactionRunsOrIsRefused := by
  intro s req request
  rw [step_of_request request]
  refine ⟨fun i decoded => by simp [runPort, decoded], ?_⟩
  rintro ⟨cmd, rest, bus, never⟩
  obtain ⟨_, count⟩ := req
  subst bus
  unfold runPort
  split
  · rename_i decoded
    have legal := emittable_of_encode (encode_of_decodeSensor decoded)
    exact absurd never ((emittable_iff cmd).mp legal)
  · rfl

/-! ## Responses of the host commands (R43, R106) -/

/-- `t` answers one response more than `s` and frees the port: a status of 0 to 4, and a payload only with OK. -/
def respondsOnce (s t : State) : Prop :=
  ∃ code payload, t.responses = s.responses ++ [code :: payload] ∧ t.hostCmd = none
    ∧ code.toNat ≤ 4 ∧ (code ≠ 0x00 → payload = [])

theorem respondOk_respondsOnce {s u : State} (same : u.responses = s.responses) (payload : List Byte) :
    respondsOnce s (u.respondOk payload) :=
  ⟨statusOk, payload, by rw [← same]; rfl, rfl, by decide, fun notOk => absurd rfl notOk⟩

theorem respondError_respondsOnce {s u : State} {e : ErrorKind} (same : u.responses = s.responses)
    (recorded : recordedCodeOk e.code = true) : respondsOnce s (u.respondError e) :=
  ⟨e.code, [], by rw [← same]; rfl, rfl, of_decide_eq_true recorded, fun _ => rfl⟩

/-- R100: the errors of CALIBRATE_LIGHT are among the recorded codes. -/
theorem lightTrim_error {s : State} {e : ErrorKind} (h : lightTrim s = .error e) : recordedCodeOk e.code = true := by
  unfold lightTrim at h
  split at h
  · split at h
    · cases h
      rfl
    · split at h
      · cases h
        rfl
      · split at h <;> cases h
        rfl
  · cases h
    rfl

/-- R83: so are those of CALIBRATE_PROX. -/
theorem calibration_error {s t : State} {e : ErrorKind} (h : calibration s = (.error e, t)) :
    recordedCodeOk e.code = true :=
  (Op.endsIn_andThen (calReadings_endsIn ..) fun r => calWriteBack_endsIn s.params _ r).error h

theorem execCalibrateProx_respondsOnce (s : State) : ∃ t, execCalibrateProx s = .next t ∧ respondsOnce s t := by
  obtain ⟨es, frame, -⟩ := calibration_frame s
  refine ⟨_, rfl, ?_⟩
  split
  · split <;> rename_i result <;> rw [result] at frame <;> simp only at frame <;> subst frame
    · exact respondOk_respondsOnce rfl _
    · exact respondError_respondsOnce rfl (calibration_error result)
  · exact respondError_respondsOnce rfl rfl

theorem exec_respondsOnce {i : Instr} {bytes : List Byte} (encoded : encode i = some (.host bytes)) (s : State) :
    ∃ t, exec i s = .next t ∧ respondsOnce s t := by
  cases i
  case calibrateProx => exact execCalibrateProx_respondsOnce s
  case lightOn | proxOn =>
    refine ⟨_, rfl, ?_⟩
    split <;> exact respondOk_respondsOnce rfl _
  case readLight =>
    refine ⟨_, rfl, ?_⟩
    split
    · exact respondError_respondsOnce rfl rfl
    · exact respondOk_respondsOnce rfl _
  case calibrateLight =>
    refine ⟨_, rfl, ?_⟩
    split
    · exact respondOk_respondsOnce rfl _
    · rename_i failed
      exact respondError_respondsOnce rfl (lightTrim_error failed)
  case setConfig record =>
    refine ⟨_, rfl, ?_⟩
    split
    · exact respondOk_respondsOnce rfl _
    · exact respondError_respondsOnce rfl rfl
  case lightOff | proxOff | readProxInfo | readProxEvent | getConfig | triggerAls | triggerProx =>
    exact ⟨_, rfl, respondOk_respondsOnce rfl _⟩
  all_goals cases encoded

/-- Settles O58. -/
theorem hostCommandsReturnOneResponse : Obligations.HostCommandsReturnOneResponse := by
  intro i s bytes encoded
  obtain ⟨t, run, code, payload, response⟩ := exec_respondsOnce encoded s
  exact ⟨t, code, payload, run, response⟩

/-- R47: the ProximityInfo record, byte by byte. -/
theorem proxInfoPayload_eq (s : State) :
    proxInfoPayload s = [s.pxInfoClear.extractLsb' 0 8, s.pxInfoClear.extractLsb' 8 8, s.pxInfoRaw.extractLsb' 0 8,
      s.pxInfoRaw.extractLsb' 8 8, if s.pxEvent then 0x01 else 0x00] := by
  rw [proxInfoPayload, bytesLe_toNat, bytesLe_toNat]
  rfl

/-- R48: the event in four bytes. -/
theorem eventPayload_eq (near : Bool) : eventPayload near = [if near then 0x01 else 0x00, 0x00, 0x00, 0x00] := by
  cases near <;> rfl

/-- Settles O57. -/
theorem proxReadsReturnTheInfoAndTheEvent : Obligations.ProxReadsReturnTheInfoAndTheEvent := by
  refine ⟨rfl, rfl, fun s => ⟨?_, ?_⟩⟩
  · rw [← proxInfoPayload_eq]
    rfl
  · rw [← eventPayload_eq]
    rfl

/-! ## The sensor rows run by themselves (R53 to R55, log 8) -/

/-- R53: the entry of a one-byte read. -/
theorem readEvent_byte (agent : Agent) (addr : SensorAddr) (a : Answer) :
    readEvent agent addr 1 a
      = ⟨agent, 0x80 ||| addr.setWidth 8, 1, if a.ok then [a.data.extractLsb' 0 8] else [], a.ok⟩ := by
  rw [← byteModeCommand_eq_or]
  rfl

/-- R54: the entry of a burst. -/
theorem readEvent_burst (agent : Agent) (addr : SensorAddr) {n : Nat} (burst : n ≠ 1) (a : Answer) :
    readEvent agent addr n a
      = ⟨agent, 0xA0 ||| addr.setWidth 8, n, if a.ok then answerBytes a n else [], a.ok⟩ := by
  rw [← autoModeCommand_eq_or, readEvent, readCommand, if_neg burst]

/-- R54: the entry of a word write, low byte first. -/
theorem writeEvent_eq (agent : Agent) (addr : SensorAddr) (v : U16) (a : Answer) :
    writeEvent agent addr v a
      = ⟨agent, 0xA0 ||| addr.setWidth 8, 2, [v.extractLsb' 0 8, v.extractLsb' 8 8], a.ok⟩ := by
  rw [← autoModeCommand_eq_or, writeEvent, wordBytes, bytesLe_toNat]
  rfl

/-- Settles O59: a row's transaction is recorded as the one-entry list. -/
theorem sensorCommandsIssueTheirTransaction : Obligations.SensorCommandsIssueTheirTransaction := by
  intro addr s
  refine ⟨?_, rfl, rfl, rfl⟩
  rw [← readEvent_byte]
  rfl

/-- Settles O60, by the kind of transfer. -/
theorem sensorAutoIssuesItsTransfer : Obligations.SensorAutoIssuesItsTransfer := by
  intro addr xfer s
  change execSensorAuto addr xfer s = _
  simp only [execSensorAuto, withinSensorSpace, decide_eq_true_eq]
  congr 2
  cases xfer with
  | read4 => exact congrArg (s.afterTransactions [·]) (readEvent_burst .bare addr (by decide) _)
  | read6 => exact congrArg (s.afterTransactions [·]) (readEvent_burst .bare addr (by decide) _)
  | write v => exact congrArg (s.afterTransactions [·]) (writeEvent_eq .bare addr v _)

end Sys2Proof.Machine
end

section
/-! SUPPORT. The statements on the configuration store's functions (R59, R60) and on GET_CONFIG and SET_CONFIG (R61 to
R63). The integration times that (I1) allows are the multiples of 50 from 50 to 650 (`validAlsTime_iff`): `normAlsTime`
maps into them and leaves each of them as it is, and `derive` is computed at the `k`-th of them. -/

namespace Sys2Proof.Machine

/-! ## Integration times (R28 (I1), R59) -/

theorem validAlsTime_iff (t : U16) :
    validAlsTime t = true ↔ ∃ k, 1 ≤ k ∧ k ≤ 13 ∧ t.toNat = 50 * k := by
  simp only [validAlsTime, Bool.and_eq_true, decide_eq_true_eq]
  constructor
  · rintro ⟨⟨least, most⟩, multiple⟩
    exact ⟨t.toNat / 50, by omega, by omega, by omega⟩
  · rintro ⟨k, least, most, value⟩
    omega

/-- R59 on the integers: the clamped time is too small for the word to cut its rounding short. -/
theorem normAlsTime_toNat (t : U16) :
    (normAlsTime t).toNat = (min (max t.toNat 50) 650 + 25) / 50 * 50 := by
  simp only [normAlsTime, BitVec.toNat_ofNat]
  omega

/-- R63: a time that is legal already is its own nearest multiple. -/
theorem normAlsTime_of_valid {t : U16} (valid : validAlsTime t = true) : normAlsTime t = t := by
  obtain ⟨k, least, most, value⟩ := (validAlsTime_iff t).mp valid
  apply BitVec.eq_of_toNat_eq
  rw [normAlsTime_toNat, value]
  omega

theorem normConfig_of_valid {cfg : DeviceConfig} (valid : validAlsTime cfg.alsTime = true) : normConfig cfg = cfg := by
  rw [normConfig, normAlsTime_of_valid valid]

/-- Rounding to the nearest multiple of 50, ties up, moves a number by 25 up or by less than 25 down. -/
theorem roundToFifty_bounds (c : Nat) : (c + 25) / 50 * 50 ≤ c + 25 ∧ c < (c + 25) / 50 * 50 + 25 := by
  omega

/-- R59: the ends of the clamp are multiples of 50, so that rounding and clamping commute. -/
theorem roundToFifty_clamp (t : Nat) :
    (min (max t 50) 650 + 25) / 50 * 50 = min (max ((t + 25) / 50 * 50) 50) 650 := by
  omega

/-- Settles O19. -/
theorem normalisedTimeIsNearestMultiple : Obligations.NormalisedTimeIsNearestMultiple := by
  intro t
  obtain ⟨k, least, most, value⟩ := (validAlsTime_iff _).mp (validAlsTime_normAlsTime t)
  obtain ⟨above, below⟩ := roundToFifty_bounds (min (max t.toNat 50) 650)
  rw [← normAlsTime_toNat] at above below
  exact ⟨by omega, by omega, by omega, above, below, (normAlsTime_toNat t).trans (roundToFifty_clamp t.toNat)⟩

/-! ## The derived registers (R60) -/

/-- R60: the saturation formula never overflows its word. -/
theorem saturationOf_toNat (x : Byte) : (saturationOf x).toNat = min ((256 - x.toNat) <<< 10) 65535 := by
  rw [saturationOf, BitVec.toNat_ofNat, Nat.shiftLeft_eq]
  omega

/-- R60: on the `k`-th legal time, `LTS_DEN` is `k`. -/
theorem derive_ltsDen {cfg : DeviceConfig} {k : Nat} (most : k ≤ 13) (value : cfg.alsTime.toNat = 50 * k) :
    (derive cfg).ltsDen.toNat = k := by
  simp only [derive, value, BitVec.toNat_ofNat]
  omega

theorem derive_ltsSat (cfg : DeviceConfig) :
    (derive cfg).ltsSat.toNat = min (300 * cfg.alsTime.toNat) 65535 := by
  simp only [derive, BitVec.toNat_ofNat]
  omega

/-- R60: the values of `LTS_SAT`, which is held at 65535 from the fifth legal time on. -/
theorem ltsSat_values {k : Nat} (least : 1 ≤ k) :
    min (300 * (50 * k)) 65535 ∈ [15000, 30000, 45000, 60000, 65535] := by
  rcases Nat.lt_or_ge k 5 with short | long
  · interval_cases k <;> decide
  · rw [min_eq_right (by omega)]
    decide

/-- Settles O20, at the `k`-th legal time. -/
theorem derivedRegistersFollowTheConfiguration : Obligations.DerivedRegistersFollowTheConfiguration := by
  intro cfg valid
  obtain ⟨k, least, most, value⟩ := (validAlsTime_iff _).mp valid
  have den : (derive cfg).ltsDen.toNat = k := derive_ltsDen most value
  refine ⟨rfl, ?_, ?_, ?_, derive_ltsSat cfg, ?_, saturationOf_toNat _, saturationOf_toNat _,
    le_saturationOf _, le_saturationOf _⟩
  · rw [den, value, Nat.mul_comm]
  · rwa [den]
  · rwa [den]
  · rw [derive_ltsSat, value]
    exact ltsSat_values least

/-! ## SET_CONFIG and GET_CONFIG (R61 to R63) -/

/-- R61: a record whose thresholds are not ordered is rejected. -/
theorem execSetConfig_rejected {record : DeviceConfig} (unordered : ¬ record.proxLo < record.proxHi) (s : State) :
    exec (.setConfig record) s = .next (s.respondError .outOfRange) :=
  congrArg Host.Outcome.next (if_neg (mt of_decide_eq_true unordered))

/-- (I3): committing the stored configuration again writes what stands there. -/
theorem commitConfig_self {s : State} (derived : s.derived = derive s.cfg) : s.commitConfig s.cfg = s := by
  rw [State.commitConfig, ← derived]

/-- Settles O23: the stored record decodes to itself, is its own normal form, and is accepted. -/
theorem setConfigOfGetConfigChangesNothing : Obligations.SetConfigOfGetConfigChangesNothing := by
  intro s valid ordered derived
  have decoded : decodeHost (0x0B :: encodeConfig s.cfg) = .ok (.setConfig s.cfg) :=
    decode_of_encode (i := .setConfig s.cfg) rfl
  calc runCommand (0x0B :: encodeConfig s.cfg) s
      = exec (.setConfig s.cfg) s := runCommand_of_decodeHost decoded s
    _ = .next ((s.commitConfig (normConfig s.cfg)).respondOk []) :=
        execSetConfig_stored (of_decide_eq_true ordered) s
    _ = .next (s.respondOk []) := by rw [normConfig_of_valid valid, commitConfig_self derived]

/-- Settles O21, by the threshold check. -/
theorem setConfigCommitsOrRejects : Obligations.SetConfigCommitsOrRejects := by
  refine ⟨fun rec length => decodeHost_ok_iff.mpr (.inl ⟨rfl, length, rfl⟩), fun record s => ?_⟩
  split
  case isTrue reject => exact execSetConfig_rejected (Nat.not_lt.mpr reject) s
  case isFalse accept => exact execSetConfig_stored (Nat.not_le.mp accept) s

/-- Settles O22. -/
theorem getConfigReturnsTheStoredRecord : Obligations.GetConfigReturnsTheStoredRecord :=
  ⟨rfl, fun _ => rfl⟩

end Sys2Proof.Machine
end

section
/-! SUPPORT. The statements on the lux engine (R64 to R73). First one equation per case of `gainOf`, `selectRow`,
`luxEval` and `luxOfScaled`. A selected row then bounds the channels' ratio from above, which keeps step 7's difference
positive (R70), and its predecessor's threshold bounds it from below, which keeps the difference within `8320 * cs`
(R71). -/

namespace Sys2Proof.Machine

/-! ## The ALS window (R67) -/

theorem alsWindowLo_toNat (c0 : U16) : (alsWindowLo c0).toNat = c0.toNat - c0.toNat / 5 := by
  rw [alsWindowLo, BitVec.toNat_ofNat]
  omega

theorem alsWindowHi_toNat (c0 : U16) : (alsWindowHi c0).toNat = min (c0.toNat + c0.toNat / 5) 0xFFFF := by
  rw [alsWindowHi, BitVec.toNat_ofNat]
  omega

/-- Settles O31. -/
theorem alsWindowHoldsItsChannel : Obligations.AlsWindowHoldsItsChannel := by
  intro c0
  rw [alsWindowLo_toNat, alsWindowHi_toNat]
  exact ⟨by omega, rfl, by omega, by omega⟩

/-! ## The gain table (R64) -/

theorem gainOf_eq_getElem? (selector : Byte) : gainOf selector = [1, 8, 16, 120][selector.toNat]? := by
  unfold gainOf
  generalize selector.toNat = n
  rcases n with _ | _ | _ | _ | n <;> rfl

theorem gainOf_eq_none_iff (selector : Byte) : gainOf selector = none ↔ 3 < selector.toNat := by
  rw [gainOf_eq_getElem?, List.getElem?_eq_none_iff]
  exact Nat.succ_le_iff

/-- No entry of the table fails DOC's own check "reject gain 0 or >127". -/
theorem gainOf_range {selector : Byte} {g : Nat} (gain : gainOf selector = some g) : 1 ≤ g ∧ g ≤ 127 := by
  have inTable : ∀ x ∈ [1, 8, 16, 120], 1 ≤ x ∧ x ≤ 127 := by decide
  rw [gainOf_eq_getElem?] at gain
  exact inTable g (List.mem_of_getElem? gain)

/-! ## Step 4: the two checks -/

theorem luxEval_of_gainOf_none {cfg : DeviceConfig} (gain : gainOf cfg.gain = none) (d : Derived) (c0 c1 : U16) :
    luxEval cfg d c0 c1 = .error .outOfRange := by
  rw [luxEval, gain]

/-- With a gain from the table, only the denominator's check is left of step 4. -/
theorem luxEval_of_gainOf {cfg : DeviceConfig} {g : Nat} (gain : gainOf cfg.gain = some g) (d : Derived) (c0 c1 : U16) :
    luxEval cfg d c0 c1
      = if d.ltsDen.toNat = 0 then .error .outOfRange
        else .ok (luxOfScaled d.ltsNum.toNat d.ltsDen.toNat d.ltsSat.toNat g
          (max c0.toNat c1.toNat * cfg.scale.toNat) (min c0.toNat c1.toNat * cfg.scale.toNat)) := by
  obtain ⟨positive, small⟩ := gainOf_range gain
  rw [luxEval, gain]
  exact if_neg (by omega)

theorem luxEval_eq_outOfRange_iff (cfg : DeviceConfig) (d : Derived) (c0 c1 : U16) :
    luxEval cfg d c0 c1 = .error .outOfRange ↔ 3 < cfg.gain.toNat ∨ d.ltsDen.toNat = 0 := by
  rw [← gainOf_eq_none_iff]
  cases gain : gainOf cfg.gain with
  | none => simp [luxEval_of_gainOf_none gain]
  | some g => simp [luxEval_of_gainOf gain]

/-! ## Steps 5 to 7, case by case -/

theorem luxOfScaled_saturated {num den sat gain cs is : Nat} (saturated : cs ≥ sat ∨ is ≥ sat) :
    luxOfScaled num den sat gain cs is = luxMax :=
  if_pos saturated

theorem luxOfScaled_zero {num den sat gain is : Nat} (unsaturated : ¬ (0 ≥ sat ∨ is ≥ sat)) :
    luxOfScaled num den sat gain 0 is = 0 := by
  rw [luxOfScaled, if_neg unsaturated, if_pos rfl]

theorem luxOfScaled_noRow {num den sat gain cs is : Nat} (unsaturated : ¬ (cs ≥ sat ∨ is ≥ sat)) (nonzero : cs ≠ 0)
    (noRow : selectRow ratioTable (channelRatio cs is) = none) : luxOfScaled num den sat gain cs is = 0 := by
  rw [luxOfScaled, if_neg unsaturated, if_neg nonzero, noRow]

theorem luxOfScaled_row {num den sat gain cs is : Nat} {row : RatioRow} (unsaturated : ¬ (cs ≥ sat ∨ is ≥ sat))
    (nonzero : cs ≠ 0) (selected : selectRow ratioTable (channelRatio cs is) = some row) :
    luxOfScaled num den sat gain cs is = luxScale (luxDifference row cs is) num den gain := by
  rw [luxOfScaled, if_neg unsaturated, if_neg nonzero, selected]

theorem channelRatio_eq_shiftLeft (cs is : Nat) : channelRatio cs is = (is <<< 15) / cs := by
  rw [Nat.shiftLeft_eq]
  rfl

theorem selectRow_ratioTable (ratio : Nat) :
    selectRow ratioTable ratio
      = if ratio < 9830 then some ⟨9830, 8320, 15360⟩
        else if ratio < 12452 then some ⟨12452, 10554, 22797⟩
        else if ratio < 14746 then some ⟨14746, 6234, 11430⟩
        else if ratio < 17695 then some ⟨17695, 3968, 6400⟩
        else none := by
  simp [ratioTable, selectRow]

theorem luxScale_eq_shiftRight (v num den gain : Nat) :
    luxScale v num den gain = min ((((v + den / 2) / den * num + gain / 2) / gain) >>> 3) 65535000 := by
  rw [Nat.shiftRight_eq_div_pow]
  rfl

/-- Settles O26, by the checks of step 4, the results of step 5 and the row of step 6. -/
theorem luxEvalFollowsItsSteps : Obligations.LuxEvalFollowsItsSteps := by
  rintro cfg d c0 c1 cs is ratio rfl rfl rfl
  rw [← gainOf_eq_getElem?, ← channelRatio_eq_shiftLeft]
  cases gain : gainOf cfg.gain with
  | none => exact luxEval_of_gainOf_none gain d c0 c1
  | some g =>
    rw [luxEval_of_gainOf gain]
    generalize max c0.toNat c1.toNat * cfg.scale.toNat = cs
    generalize min c0.toNat c1.toNat * cfg.scale.toNat = is
    by_cases den : d.ltsDen = 0
    · exact (if_pos (congrArg BitVec.toNat den)).trans (if_pos den).symm
    have den_toNat : d.ltsDen.toNat ≠ 0 := fun zero => den (BitVec.eq_of_toNat_eq zero)
    dsimp only
    rw [if_neg den, if_neg den_toNat]
    by_cases saturated : cs ≥ d.ltsSat.toNat ∨ is ≥ d.ltsSat.toNat
    · rw [luxOfScaled_saturated saturated, if_pos saturated]
      rfl
    rw [if_neg saturated]
    by_cases zero : cs = 0
    · subst zero
      rw [luxOfScaled_zero saturated, if_pos rfl]
    rw [if_neg zero]
    have selected := selectRow_ratioTable (channelRatio cs is)
    split_ifs at selected ⊢
    case neg => rw [luxOfScaled_noRow saturated zero selected]
    all_goals
      rw [luxOfScaled_row saturated zero selected, luxScale_eq_shiftRight]
      rfl

/-! ## The selected row (R70) -/

/-- Step 6 selects only rows of the table whose threshold exceeds the ratio. -/
theorem selectRow_eq_some {rows : List RatioRow} {ratio : Nat} {row : RatioRow}
    (selected : selectRow rows ratio = some row) : row ∈ rows ∧ ratio < row.ratio := by
  induction rows with
  | nil => cases selected
  | cons first rest ih =>
    rw [selectRow] at selected
    split_ifs at selected with sentinel exceeds
    · cases selected
      exact ⟨List.mem_cons_self, exceeds⟩
    · obtain ⟨inRest, above⟩ := ih selected
      exact ⟨List.mem_cons_of_mem _ inRest, above⟩

/-- R70's bracket: at the row's own threshold the linear form has a positive slope. The sentinel's threshold is 0. -/
theorem ratioTable_slope_pos :
    ∀ row ∈ ratioTable, 0 < row.ratio → row.ratio * row.irCoeff < row.clearCoeff * 32768 := by
  decide

/-- Settles O27. -/
theorem luxDifferenceIsPositive : Obligations.LuxDifferenceIsPositive := by
  intro cs is row positive _ selected
  obtain ⟨inTable, below⟩ := selectRow_eq_some selected
  have slope := ratioTable_slope_pos row inTable (Nat.zero_lt_of_lt below)
  have channels : is * 32768 < row.ratio * cs := (Nat.div_lt_iff_lt_mul positive).mp below
  have scaled : is * row.irCoeff * 32768 < cs * row.clearCoeff * 32768 :=
    calc is * row.irCoeff * 32768
        = is * 32768 * row.irCoeff := Nat.mul_right_comm ..
      _ ≤ row.ratio * cs * row.irCoeff := Nat.mul_le_mul_right _ channels.le
      _ = cs * (row.ratio * row.irCoeff) := by ring
      _ < cs * (row.clearCoeff * 32768) := Nat.mul_lt_mul_of_pos_left slope positive
      _ = cs * row.clearCoeff * 32768 := (Nat.mul_assoc ..).symm
  omega

/-! ## The bound of an unsaturated value (R71) -/

theorem rdiv_le {x d b : Nat} (positive : 0 < d) (le : x ≤ b * d) : rdiv x d ≤ b := by
  rw [rdiv, ← Nat.lt_succ_iff, Nat.div_lt_iff_lt_mul positive, Nat.succ_mul]
  omega

/-- R71: the second row's larger clear coefficient is paid for by the first row's threshold. -/
theorem luxDifference_le {cs is : Nat} {row : RatioRow} (positive : 0 < cs)
    (selected : selectRow ratioTable (channelRatio cs is) = some row) : luxDifference row cs is ≤ 8320 * cs := by
  have reaches : ¬ channelRatio cs is < 9830 → 9830 * cs ≤ is * 32768 := fun atLeast =>
    (Nat.le_div_iff_mul_le positive).mp (Nat.not_lt.mp atLeast)
  rw [selectRow_ratioTable] at selected
  split_ifs at selected with first <;> cases selected <;> simp only [luxDifference]
  · omega
  · have lower := reaches first
    omega
  · omega
  · omega

/-- R71: with a difference of at most `8320 * cs`, the legal times' saturations bound what step 7 gives. -/
theorem luxScale_le {v cs k gain : Nat} (least : 1 ≤ k) (positive : 1 ≤ gain)
    (unsaturated : cs < min (300 * (50 * k)) 65535) (le : v ≤ 8320 * cs) : luxScale v 1 k gain ≤ 15599740 := by
  have descaled : rdiv v k ≤ 124797920 := rdiv_le least (by omega)
  have corrected : rdiv (rdiv v k * 1) gain ≤ 124797920 :=
    rdiv_le positive (Nat.mul_le_mul descaled positive)
  exact (Nat.min_le_left _ _).trans (Nat.div_le_div_right corrected)

/-- R71, on the scaled channels. -/
theorem luxOfScaled_le_of_unsaturated {k gain cs is : Nat} (least : 1 ≤ k) (positive : 1 ≤ gain) (ordered : is ≤ cs)
    (unsaturated : cs < min (300 * (50 * k)) 65535) :
    luxOfScaled 1 k (min (300 * (50 * k)) 65535) gain cs is ≤ 15599740 := by
  have neither : ¬ (cs ≥ min (300 * (50 * k)) 65535 ∨ is ≥ min (300 * (50 * k)) 65535) := by omega
  by_cases zero : cs = 0
  · subst zero
    rw [luxOfScaled_zero neither]
    exact Nat.zero_le _
  cases selected : selectRow ratioTable (channelRatio cs is) with
  | none =>
    rw [luxOfScaled_noRow neither zero selected]
    exact Nat.zero_le _
  | some row =>
    rw [luxOfScaled_row neither zero selected]
    exact luxScale_le least positive unsaturated (luxDifference_le (Nat.pos_of_ne_zero zero) selected)

/-- A value of `LuxEval` on a legal time, the `k`-th: step 4 passed, and the registers are those of R60. -/
theorem luxEval_derive_of_gainOf {cfg : DeviceConfig} {k g : Nat} (least : 1 ≤ k) (most : k ≤ 13)
    (value : cfg.alsTime.toNat = 50 * k) (gain : gainOf cfg.gain = some g) (c0 c1 : U16) :
    luxEval cfg (derive cfg) c0 c1
      = .ok (luxOfScaled 1 k (min (300 * (50 * k)) 65535) g
          (max c0.toNat c1.toNat * cfg.scale.toNat) (min c0.toNat c1.toNat * cfg.scale.toNat)) := by
  have den : (derive cfg).ltsDen.toNat = k := derive_ltsDen most value
  rw [luxEval_of_gainOf gain, den, derive_ltsSat, value, if_neg (by omega)]
  rfl

/-- R71's largest value: 59999 is the last unsaturated count at 200 ms. -/
theorem luxOfScaled_greatest : luxOfScaled 1 4 60000 1 59999 0 = 15599740 := by
  have selected : selectRow ratioTable (channelRatio 59999 0) = some ⟨9830, 8320, 15360⟩ := by decide
  rw [luxOfScaled_row (by decide) (by decide) selected]
  decide

/-- Settles O28, at the `k`-th legal time; the largest value is that of the fourth. -/
theorem unsaturatedLuxIsBounded : Obligations.UnsaturatedLuxIsBounded := by
  constructor
  · intro cfg c0 c1 v valid unsaturated eval
    obtain ⟨k, least, most, value⟩ := (validAlsTime_iff _).mp valid
    rw [derive_ltsSat, value] at unsaturated
    cases gain : gainOf cfg.gain with
    | none =>
      rw [luxEval_of_gainOf_none gain] at eval
      cases eval
    | some g =>
      rw [luxEval_derive_of_gainOf least most value gain] at eval
      cases eval
      obtain ⟨positive, -⟩ := gainOf_range gain
      exact luxOfScaled_le_of_unsaturated least positive (Nat.mul_le_mul_right _ min_le_max) unsaturated
  · intro cfg time scale selector
    have value : cfg.alsTime.toNat = 50 * 4 := by rw [time]; rfl
    have gain : gainOf cfg.gain = some 1 := by rw [selector]; rfl
    rw [luxEval_derive_of_gainOf (by decide) (by decide) value gain, scale]
    exact congrArg Except.ok luxOfScaled_greatest

/-! ## The limits and the symmetry (R72, R73) -/

/-- Settles O30. -/
theorem luxRaisesOrMeetsItsLimits : Obligations.LuxRaisesOrMeetsItsLimits := by
  refine ⟨fun cfg d c0 c1 => ⟨luxEval_eq_outOfRange_iff cfg d c0 c1, fun selector den => ?_⟩,
    fun cfg c0 c1 valid selector => ?_⟩
  · rcases luxEval_cases cfg d c0 c1 with raised | ⟨v, le, eval⟩
    · exact absurd ((luxEval_eq_outOfRange_iff ..).mp raised) (by omega)
    · exact ⟨v, eval, le⟩
  · obtain ⟨k, least, most, value⟩ := (validAlsTime_iff _).mp valid
    obtain ⟨g, gain⟩ := Option.ne_none_iff_exists'.mp (mt (gainOf_eq_none_iff _).mp (Nat.not_lt.mpr selector))
    rw [luxEval_derive_of_gainOf least most value gain, derive_ltsSat, value]
    have ordered : min c0.toNat c1.toNat * cfg.scale.toNat ≤ max c0.toNat c1.toNat * cfg.scale.toNat :=
      Nat.mul_le_mul_right _ min_le_max
    refine ⟨fun zero => ?_, fun saturated => ?_⟩
    · rw [zero] at ordered ⊢
      exact congrArg Except.ok (luxOfScaled_zero (by omega))
    · exact congrArg Except.ok (luxOfScaled_saturated (.inl saturated))

/-- Settles O29: steps 3 to 7 read the channels through their maximum and minimum alone. -/
theorem luxIsSymmetricInItsChannels : Obligations.LuxIsSymmetricInItsChannels := by
  refine ⟨fun cfg d c0 c1 => ?_, rfl, rfl⟩
  rw [luxEval, max_comm c0.toNat, min_comm c0.toNat]
  rfl

end Sys2Proof.Machine
end

section
/-! SUPPORT. The statements on the temporal median filter (42_median_filter.md): its selector through the values'
order, and what it puts out on a history that is full and on one that is not. -/

namespace Sys2Proof.Machine

/-! ## The selector (R76) -/

theorem luxMin_toNat (a b : Lux) : (luxMin a b).toNat = min a.toNat b.toNat := by
  unfold luxMin
  split <;> omega

theorem luxMaxOf_toNat (a b : Lux) : (luxMaxOf a b).toNat = max a.toNat b.toNat := by
  unfold luxMaxOf
  split <;> omega

/-- R76: the selector as one expression of minima and maxima of the values. -/
theorem median3_toNat (a b c : Lux) :
    (median3 a b c).toNat = max (min a.toNat b.toNat) (min (max a.toNat b.toNat) c.toNat) := by
  rw [median3, luxMaxOf_toNat, luxMin_toNat, luxMin_toNat, luxMaxOf_toNat]

/-- A pair of the three values is at or below the median. -/
theorem pair_le_median3 (a b c : Lux) :
    (a.toNat ≤ (median3 a b c).toNat ∧ b.toNat ≤ (median3 a b c).toNat)
      ∨ (a.toNat ≤ (median3 a b c).toNat ∧ c.toNat ≤ (median3 a b c).toNat)
      ∨ (b.toNat ≤ (median3 a b c).toNat ∧ c.toNat ≤ (median3 a b c).toNat) := by
  rw [median3_toNat]
  omega

/-- A pair of the three values is at or above the median. -/
theorem median3_le_pair (a b c : Lux) :
    ((median3 a b c).toNat ≤ a.toNat ∧ (median3 a b c).toNat ≤ b.toNat)
      ∨ ((median3 a b c).toNat ≤ a.toNat ∧ (median3 a b c).toNat ≤ c.toNat)
      ∨ ((median3 a b c).toNat ≤ b.toNat ∧ (median3 a b c).toNat ≤ c.toNat) := by
  rw [median3_toNat]
  omega

/-- Two of three list entries are counted as soon as some pair of them meets the predicate. -/
theorem two_le_countP_of_pair {p : Lux → Prop} [DecidablePred p] {a b c : Lux}
    (pair : (p a ∧ p b) ∨ (p a ∧ p c) ∨ (p b ∧ p c)) : 2 ≤ [a, b, c].countP (fun x => decide (p x)) := by
  rcases pair with ⟨first, second⟩ | ⟨first, second⟩ | ⟨first, second⟩ <;>
    simp [List.countP_cons, first, second]

/-- Settles O32. -/
theorem medianIsTheMiddleValue : Obligations.MedianIsTheMiddleValue := by
  intro a b c
  have member : median3 a b c ∈ [a, b, c] := by simpa using median3_eq a b c
  exact ⟨member, two_le_countP_of_pair (pair_le_median3 a b c), two_le_countP_of_pair (median3_le_pair a b c)⟩

/-! ## The output on a history (R77) -/

/-- R77: three values in the history give their median. -/
theorem medianOutput_full (a b c : Lux) : medianOutput ⟨some a, some b, some c⟩ = some (median3 a b c) := rfl

/-- R77: as long as the oldest slot holds `NoDataV`, so does the output. -/
theorem medianOutput_oldest_none (newest middle : Option Lux) : medianOutput ⟨newest, middle, none⟩ = none := by
  cases newest with
  | none => rfl
  | some a => cases middle <;> rfl

/-! ## The first three commits after a restart (R78, R79) -/

/-- R78: a restart empties all three slots, so the first pushed value stands alone. -/
theorem State.restarted_first_hist (s : State) (u : Lux) :
    (s.medianRestart.commitLight u).hist = ⟨some u, none, none⟩ := rfl

theorem State.restarted_second_hist (s : State) (u v : Lux) :
    ((s.medianRestart.commitLight u).commitLight v).hist = ⟨some v, some u, none⟩ := rfl

theorem State.restarted_third_hist (s : State) (u v w : Lux) :
    (((s.medianRestart.commitLight u).commitLight v).commitLight w).hist = ⟨some w, some v, some u⟩ := rfl

/-- What a commit publishes is the filter's output on the history it leaves. -/
theorem State.commitLight_luxPub_eq_medianOutput_hist (s : State) (v : Lux) :
    (s.commitLight v).luxPub = medianOutput (s.commitLight v).hist := rfl

/-- Settles O33: the oldest slot holds `NoDataV` until the third commit fills it. -/
theorem thirdPushAfterRestartPublishesTheMedian : Obligations.ThirdPushAfterRestartPublishesTheMedian := by
  intro s u v w
  refine ⟨?_, ?_, ?_, State.restarted_third_hist s u v w⟩
  · rw [State.commitLight_luxPub_eq_medianOutput_hist, State.restarted_first_hist, medianOutput_oldest_none]
  · rw [State.commitLight_luxPub_eq_medianOutput_hist, State.restarted_second_hist, medianOutput_oldest_none]
  · rw [State.commitLight_luxPub_eq_medianOutput_hist, State.restarted_third_hist, medianOutput_full]

end Sys2Proof.Machine
end

section
/-! SUPPORT. The statements on proximity (43_proximity.md): the guard and the comparator by their cases (R80, R81), the
calibrated pair (R82, R84), and CALIBRATE_PROX (R83). A calibration is followed transaction by transaction: each answer
either records its entry and goes on, or ends it there with TransportError, so that every outcome is a prefix of
`calEntries`. -/

namespace Sys2Proof.Machine

/-! ## The guard and the comparator (R80, R81) -/

/-- R81: a reading that is neither above the armed high threshold nor below the low one changes nothing. -/
theorem proxCompare_between {s : State} {raw : U16} (near : ¬ raw > s.pxArmHi) (far : ¬ raw < s.pxArmLo) :
    proxCompare s raw = ⟨s.pxEvent, s.pxArmHi, s.pxArmLo, false⟩ := (if_neg near).trans (if_neg far)

theorem ambientSwamped_iff (satAls clear : U16) :
    ambientSwamped satAls clear = true ↔ 5 * clear.toNat > 4 * satAls.toNat := decide_eq_true_iff

/-- R80: the exact test and the floored one agree on the integers. -/
theorem five_mul_gt_iff (sat clear : Nat) : 5 * clear > 4 * sat ↔ clear > 8 * sat / 10 := by omega

/-- Settles O34, by the comparator's three cases. -/
theorem guardAndComparatorClassifyTheReading : Obligations.GuardAndComparatorClassifyTheReading := by
  refine ⟨fun satAls clear => ⟨ambientSwamped_iff .., (ambientSwamped_iff ..).trans (five_mul_gt_iff ..)⟩,
    fun s raw => ?_⟩
  split_ifs with near far
  · exact proxCompare_near near
  · exact proxCompare_far near far
  · exact proxCompare_between near far

/-! ## The calibrated pair (R82 to R84) -/

theorem calPair_of_under_floor {satProx : U16} {mean : Nat} (under : mean + 1000 < floor12 satProx) :
    calLo satProx mean = floor12 satProx ∧ calHi satProx mean = floor15 satProx :=
  ⟨if_pos (decide_eq_true under), if_pos (decide_eq_true under)⟩

theorem calPair_of_floor_le {satProx : U16} {mean : Nat} (above : floor12 satProx ≤ mean + 1000) :
    calLo satProx mean = mean + 1000 ∧ calHi satProx mean = mean + 1500 :=
  have notUnder : ¬ calFloorApplies satProx mean = true := mt of_decide_eq_true (Nat.not_lt.mpr above)
  ⟨if_neg notUnder, if_neg notUnder⟩

/-- Settles O36. -/
theorem calibratedPairHasItsFloor : Obligations.CalibratedPairHasItsFloor :=
  fun _ mean sat => ⟨calPair_of_under_floor, calPair_of_floor_le, calLo_lt_calHi sat mean⟩

/-! ## A write after some transactions -/

theorem State.next_answer_afterTransactions (s : State) {es : List PortEvent} {n : Nat} (length : es.length = n) :
    (s.afterTransactions es).answerAt 0 = s.answerAt n := by
  rw [State.answerAt_afterTransactions, length, Nat.add_zero]

theorem memWrite_afterTransactions_ok {agent : Agent} {addr : SensorAddr} {v : U16} {s : State} {es : List PortEvent}
    {n : Nat} (length : es.length = n) (answered : (s.answerAt n).ok = true) :
    memWrite agent addr v (s.afterTransactions es)
      = (.ok (), s.afterTransactions (es ++ [writeEvent agent addr v (s.answerAt n)])) := by
  have next := s.next_answer_afterTransactions length
  rw [memWrite_ok (by rwa [next]), next, State.afterTransactions_record]

theorem memWrite_afterTransactions_err {agent : Agent} {addr : SensorAddr} {v : U16} {s : State} {es : List PortEvent}
    {n : Nat} (length : es.length = n) (failed : (s.answerAt n).ok = false) :
    memWrite agent addr v (s.afterTransactions es)
      = (.error .transportError,
          s.afterTransactions (es ++ [writeEvent agent addr v (s.answerAt n)])) := by
  have next := s.next_answer_afterTransactions length
  rw [memWrite_err (by rwa [next]), next, State.afterTransactions_record]

/-! ## The readings of a calibration (R83) -/

/-- The entries of the first `n` readings of a calibration. -/
def calReadEntries (s : State) (n : Nat) : List PortEvent :=
  (List.range n).map fun k => readEvent .hostCommand s.params.regData 6 (s.answerAt k)

@[simp] theorem calReadEntries_length (s : State) (n : Nat) : (calReadEntries s n).length = n := by
  simp [calReadEntries]

/-- The sampling loop ends at its first `Err`, with the entries up to it. -/
theorem calReadings_err (addr : SensorAddr) {n k : Nat} (within : k < n) (sum mx : Nat) (s : State)
    (answered : ∀ j < k, (s.answerAt j).ok = true) (failed : (s.answerAt k).ok = false) :
    calReadings addr n sum mx s
      = (.error .transportError,
        s.afterTransactions ((List.range (k + 1)).map fun j => readEvent .hostCommand addr 6 (s.answerAt j))) := by
  induction k generalizing n sum mx s with
  | zero =>
    obtain ⟨n, rfl⟩ := Nat.exists_eq_add_one.mpr within
    exact Op.andThen_error (memRead_err failed)
  | succ k ih =>
    obtain ⟨n, rfl⟩ := Nat.exists_eq_add_one.mpr (Nat.zero_lt_of_lt within)
    have first : (s.answerAt 0).ok = true := answered 0 (Nat.succ_pos k)
    rw [calReadings, Op.andThen_ok (memRead_ok first), ih (Nat.lt_of_succ_lt_succ within)]
    · simp only [State.answerAt_record, Nat.add_comm 1, List.range_succ_eq_map (n := k + 1), List.map_cons,
        List.map_map]
      rw [State.record_eq, State.afterTransactions_append]
      rfl
    · intro j before
      rw [State.answerAt_record, Nat.add_comm]
      exact answered (j + 1) (Nat.succ_lt_succ before)
    · rwa [State.answerAt_record, Nat.add_comm]

/-- With twenty readings answered, a calibration goes on to its check and its writes. -/
theorem calibration_of_readings {s : State} (answered : ∀ k < 20, (s.answerAt k).ok = true) :
    calibration s
      = calWriteBack s.params s.derived.satProx ((calSampleList s).sum, (calSampleList s).foldl max 0)
          (s.afterTransactions (calReadEntries s 20)) := by
  rw [List.sum_eq_foldl]
  exact Op.andThen_ok (calReadings_ok s.params.regData 20 0 0 s answered)

theorem calibration_of_reading_err {s : State} {k : Nat} (reading : k < 20)
    (answered : ∀ j < k, (s.answerAt j).ok = true) (failed : (s.answerAt k).ok = false) :
    calibration s = (.error .transportError, s.afterTransactions (calReadEntries s (k + 1))) :=
  Op.andThen_error (calReadings_err s.params.regData reading 0 0 s answered failed)

/-! ## The check and the writes of a calibration (R83) -/

/-- What a calibration stores if nothing stops it: the pair of the mean, and the maximum of the readings. -/
def calResult (s : State) : Calibration where
  hi := BitVec.ofNat 16 (calHi s.derived.satProx (calMean s))
  lo := BitVec.ofNat 16 (calLo s.derived.satProx (calMean s))
  max := BitVec.ofNat 16 ((calSampleList s).foldl max 0)

/-- The entry of the PILT write. -/
def calLowEntry (s : State) : PortEvent := writeEvent .hostCommand s.params.regPilt (calResult s).lo (s.answerAt 20)

/-- The entry of the PIHT write. -/
def calHighEntry (s : State) : PortEvent := writeEvent .hostCommand s.params.regPiht (calResult s).hi (s.answerAt 21)

theorem calEntries_eq (s : State) : calEntries s = calReadEntries s 20 ++ [calLowEntry s] ++ [calHighEntry s] :=
  List.append_cons (calReadEntries s 20) (calLowEntry s) [calHighEntry s]

theorem take_calEntries_of_le {s : State} {n : Nat} (readings : n ≤ 20) :
    (calEntries s).take n = calReadEntries s n := by
  rw [calEntries_eq, List.append_assoc, List.take_append_of_le_length (by simpa using readings), calReadEntries,
    ← List.map_take, List.take_range, Nat.min_eq_left readings, calReadEntries]

theorem take_calEntries_lowWrite (s : State) : (calEntries s).take 21 = calReadEntries s 20 ++ [calLowEntry s] := by
  rw [calEntries_eq]
  exact List.take_left' (by simp)

theorem take_calEntries_all (s : State) : (calEntries s).take 22 = calEntries s :=
  List.take_of_length_le (by simp [calEntries_eq])

/-- A high threshold past 16 bits ends the calibration before its writes. -/
theorem calibration_of_overflow {s : State} (answered : ∀ k < 20, (s.answerAt k).ok = true)
    (overflow : 0xFFFF < calHi s.derived.satProx (calMean s)) :
    calibration s = (.error .outOfRange, s.afterTransactions (calReadEntries s 20)) := by
  rw [calibration_of_readings answered]
  exact congrFun (if_pos overflow) _

/-- A high threshold that fits is written after the low one. -/
theorem calibration_of_fits {s : State} (answered : ∀ k < 20, (s.answerAt k).ok = true)
    (fits : calHi s.derived.satProx (calMean s) ≤ 0xFFFF) :
    calibration s
      = Op.andThen (memWrite .hostCommand s.params.regPilt (calResult s).lo)
          (fun _ => Op.andThen (memWrite .hostCommand s.params.regPiht (calResult s).hi)
            fun _ => Op.done (calResult s))
          (s.afterTransactions (calReadEntries s 20)) := by
  rw [calibration_of_readings answered]
  exact congrFun (if_neg (Nat.not_lt.mpr fits)) _

theorem calibration_of_lowWrite_err {s : State} (answered : ∀ k < 20, (s.answerAt k).ok = true)
    (fits : calHi s.derived.satProx (calMean s) ≤ 0xFFFF) (failed : (s.answerAt 20).ok = false) :
    calibration s = (.error .transportError, s.afterTransactions (calReadEntries s 20 ++ [calLowEntry s])) :=
  (calibration_of_fits answered fits).trans
    (Op.andThen_error (memWrite_afterTransactions_err (calReadEntries_length s 20) failed))

/-- With its low threshold written, a calibration ends with the answer to its second write. -/
theorem calibration_of_lowWrite_ok {s : State} (answered : ∀ k < 21, (s.answerAt k).ok = true)
    (fits : calHi s.derived.satProx (calMean s) ≤ 0xFFFF) :
    calibration s
      = Op.andThen (memWrite .hostCommand s.params.regPiht (calResult s).hi) (fun _ => Op.done (calResult s))
          (s.afterTransactions (calReadEntries s 20 ++ [calLowEntry s])) :=
  (calibration_of_fits (fun k reading => answered k (Nat.lt_succ_of_lt reading)) fits).trans
    (Op.andThen_ok (memWrite_afterTransactions_ok (calReadEntries_length s 20) (answered 20 (by decide))))

theorem calibration_of_highWrite_err {s : State} (answered : ∀ k < 21, (s.answerAt k).ok = true)
    (fits : calHi s.derived.satProx (calMean s) ≤ 0xFFFF) (failed : (s.answerAt 21).ok = false) :
    calibration s = (.error .transportError, s.afterTransactions (calEntries s)) := by
  rw [calEntries_eq]
  exact (calibration_of_lowWrite_ok answered fits).trans
    (Op.andThen_error (memWrite_afterTransactions_err (by simp) failed))

theorem calibration_ok {s : State} (answered : ∀ k < 22, (s.answerAt k).ok = true)
    (fits : calHi s.derived.satProx (calMean s) ≤ 0xFFFF) :
    calibration s = (.ok (calResult s), s.afterTransactions (calEntries s)) := by
  rw [calEntries_eq]
  exact (calibration_of_lowWrite_ok (fun k early => answered k (Nat.lt_succ_of_lt early)) fits).trans
    (Op.andThen_ok (memWrite_afterTransactions_ok (by simp) (answered 21 (by decide))))

/-- R83: the first `Err` of a calibration that gets that far ends it with TransportError after the entries up to it. -/
theorem calibration_of_first_err {s : State} {k : Nat} (within : k < 22) (answered : ∀ j < k, (s.answerAt j).ok = true)
    (failed : (s.answerAt k).ok = false) (reached : k < 20 ∨ calHi s.derived.satProx (calMean s) ≤ 0xFFFF) :
    calibration s = (.error .transportError, s.afterTransactions ((calEntries s).take (k + 1))) := by
  rcases Nat.lt_or_ge k 20 with reading | writing
  · rw [take_calEntries_of_le reading, calibration_of_reading_err reading answered failed]
  · have fits := reached.resolve_left (Nat.not_lt.mpr writing)
    obtain rfl | rfl : k = 20 ∨ k = 21 := by omega
    · rw [take_calEntries_lowWrite, calibration_of_lowWrite_err answered fits failed]
    · rw [take_calEntries_all, calibration_of_highWrite_err answered fits failed]

/-! ## CALIBRATE_PROX (R83) -/

theorem exec_calibrateProx_disabled {s : State} (disabled : s.proxEn = false) :
    exec .calibrateProx s = .next (s.respondError .invalidState) := by
  simp [exec, execCalibrateProx, disabled]

theorem exec_calibrateProx_of_ok {s t : State} {c : Calibration} (enabled : s.proxEn = true)
    (result : calibration s = (.ok c, t)) :
    exec .calibrateProx s = .next ((t.commitCalibration c).respondOk []) := by
  simp [exec, execCalibrateProx, enabled, result]

theorem exec_calibrateProx_of_error {s t : State} {e : ErrorKind} (enabled : s.proxEn = true)
    (result : calibration s = (.error e, t)) : exec .calibrateProx s = .next (t.respondError e) := by
  simp [exec, execCalibrateProx, enabled, result]

/-- Settles O37: the calibration ends with its result, which the commit stores. -/
theorem calibrateProxStoresTheCalibratedPair : Obligations.CalibrateProxStoresTheCalibratedPair := by
  intro s enabled answered fits
  rw [exec_calibrateProx_of_ok enabled (calibration_ok answered fits)]
  rfl

/-- Settles O38, by what stops the calibration. -/
theorem calibrateProxErrorsWriteNoRegister : Obligations.CalibrateProxErrorsWriteNoRegister := by
  intro s
  refine ⟨fun disabled => ?_, fun enabled k within answered failed reached => ?_, fun enabled answered overflow => ?_⟩
  · rw [exec_calibrateProx_disabled disabled]
    rfl
  · rw [exec_calibrateProx_of_error enabled (calibration_of_first_err within answered failed reached)]
    rfl
  · rw [exec_calibrateProx_of_error enabled (calibration_of_overflow answered overflow),
      take_calEntries_of_le (Nat.le_refl 20)]
    rfl

end Sys2Proof.Machine
end

section
/-! SUPPORT. The statements on the trigger front end, on the scheduling of the units' operations and on what the two
pipelines have in common (R85 to R90, R93, R94). A pipeline is its two flags and its two operations; the statements on
coalescing and on fair runs are proved once of a pipeline, by what one turn does to its flags. -/

namespace Sys2Proof.Machine

/-! ## A step takes an operation where it is enabled (R85) -/

theorem runIf_eq_ite {enabled : Bool} {c : Prop} [Decidable c] (h : enabled = true ↔ c) (i : Instr) (s : State) :
    runIf enabled i s = if c then exec i s else .next s :=
  if_congr h rfl rfl

theorem signalAccepted_iff (s : State) : signalAccepted s = true ↔ s.dispState = .idle := decide_eq_true_iff

theorem alsDeqEnabled_iff (s : State) : alsDeqEnabled s = true ↔ s.alsPending = true ∧ s.alsBusy = false := by
  simp [alsDeqEnabled]

theorem alsExecEnabled_iff (s : State) : alsExecEnabled s = true ↔ s.alsBusy = true := Iff.rfl

theorem proxDeqEnabled_iff (s : State) : proxDeqEnabled s = true ↔ s.proxPending = true ∧ s.proxBusy = false := by
  simp [proxDeqEnabled]

theorem proxExecEnabled_iff (s : State) : proxExecEnabled s = true ↔ s.proxBusy = true := Iff.rfl

/-- R43, R117: the port holds the first command issued until its response. -/
theorem State.issueCommand_eq (s : State) (command : List Byte) :
    s.issueCommand command = { s with hostCmd := some (s.hostCmd.getD command) } := by
  unfold State.issueCommand
  split <;> rename_i port <;> rw [port]
  · rfl
  · rw [Option.getD_some, ← port]

/-- Settles O10, choice by choice. -/
theorem stepTakesEnabledOperations : Obligations.StepTakesEnabledOperations := by
  intro s noRequest
  simp only [step_of_no_request noRequest]
  refine ⟨fun turn => ?_, fun turn => ?_, fun turn => ?_, fun turn => ?_, fun turn => ?_, fun command turn => ?_⟩ <;>
    rw [turn]
  · exact runIf_eq_ite (signalAccepted_iff s.afterPick) ..
  · exact runIf_eq_ite (alsDeqEnabled_iff s.afterPick) ..
  · exact runIf_eq_ite (alsExecEnabled_iff s.afterPick) ..
  · exact runIf_eq_ite (proxDeqEnabled_iff s.afterPick) ..
  · exact runIf_eq_ite (proxExecEnabled_iff s.afterPick) ..
  · exact congrArg Host.Outcome.next (s.afterPick.issueCommand_eq command)

/-! ## The trigger front end (R86 to R88) -/

/-- R53, R86: the status byte is the answer's first byte. -/
theorem headD_answerBytes_one (a : Answer) : (answerBytes a 1).headD 0 = a.data.extractLsb' 0 8 := by
  rw [answerBytes, bytesLe_toNat]
  rfl

/-- A bit of the status byte is that bit of the answer. -/
theorem getLsbD_statusByte (v : BitVec 48) (bit : Fin 8) :
    (v.extractLsb' 0 8).getLsbD bit.val = v.getLsbD bit.val := by
  simp [bit.isLt]

/-- The transaction of IRQ, with the answer it would get. -/
def statusEntry (s : State) : PortEvent := readEvent .triggerFrontEnd s.params.regStatus 1 (s.answerAt 0)

/-- R86: a status byte that was read is routed. -/
theorem irqStep_of_ok {s : State} (answered : (s.answerAt 0).ok = true) :
    irqStep s
      = { (s.afterTransactions [statusEntry s]).dispatch ((s.answerAt 0).data.extractLsb' 0 8) with
          dispState := .idle } := by
  rw [irqStep, memRead_ok (s := { s with dispState := .dispatching }) answered, ← headD_answerBytes_one]
  rfl

/-- R86: a failed status read is logged, and nothing is queued. -/
theorem irqStep_of_err {s : State} (failed : (s.answerAt 0).ok = false) :
    irqStep s
      = { s.afterTransactions [statusEntry s] with
          dispLastStatus := ErrorKind.transportError.code, dispState := .idle } := by
  rw [irqStep, memRead_err (s := { s with dispState := .dispatching }) failed]
  rfl

theorem statusEntry_eq (s : State) :
    statusEntry s
      = ⟨.triggerFrontEnd, byteModeCommand s.params.regStatus, 1,
          if (s.answerAt 0).ok then [(s.answerAt 0).data.extractLsb' 0 8] else [], (s.answerAt 0).ok⟩ := by
  rw [byteModeCommand_eq_or]
  exact readEvent_byte ..

/-- Settles O39, by the outcome of the status read. -/
theorem irqRoutesTheStatusByte : Obligations.IrqRoutesTheStatusByte := by
  intro s
  rw [← statusEntry_eq]
  refine congrArg Host.Outcome.next ?_
  cases read : (s.answerAt 0).ok with
  | false =>
    rw [irqStep_of_err read]
    simp [ErrorKind.code, State.afterTransactions]
  | true =>
    rw [irqStep_of_ok read]
    simp only [State.dispatch, requestsLight, requestsProx, alsInterrupt, proxInterrupt, getLsbD_statusByte]
    rfl

/-- Settles O40. -/
theorem triggersSetTheirPendingFlag : Obligations.TriggersSetTheirPendingFlag :=
  ⟨rfl, rfl, fun _ => ⟨rfl, rfl⟩⟩

/-! ## The operations of the units where they are enabled and where not (R89, R90, R94) -/

theorem exec_alsDeq_eq (s : State) :
    exec .alsDeq s
      = if s.alsPending = true ∧ s.alsBusy = false then .next { s with alsPending := false, alsBusy := true }
        else .refused .notEnabled :=
  if_congr (alsDeqEnabled_iff s) rfl rfl

theorem exec_proxDeq_eq (s : State) :
    exec .proxDeq s
      = if s.proxPending = true ∧ s.proxBusy = false then .next { s with proxPending := false, proxBusy := true }
        else .refused .notEnabled :=
  if_congr (proxDeqEnabled_iff s) rfl rfl

theorem exec_alsExec_of_busy {s : State} (busy : s.alsBusy = true) : exec .alsExec s = .next (lightPass s) :=
  if_pos busy

theorem exec_alsExec_of_idle {s : State} (idle : s.alsBusy = false) : exec .alsExec s = .refused .notEnabled :=
  if_neg (Bool.eq_false_iff.mp idle)

theorem exec_proxExec_of_busy {s : State} (busy : s.proxBusy = true) : exec .proxExec s = .next (proxPass s) :=
  if_pos busy

theorem exec_proxExec_of_idle {s : State} (idle : s.proxBusy = false) : exec .proxExec s = .refused .notEnabled :=
  if_neg (Bool.eq_false_iff.mp idle)

/-- Settles O41. -/
theorem dequeueTakesTheQueuedPassWhereEnabled : Obligations.DequeueTakesTheQueuedPassWhereEnabled := by
  intro s
  rw [exec_alsDeq_eq, exec_proxDeq_eq]
  refine ⟨fun queued idle => if_pos ⟨queued, idle⟩, fun queued idle => if_pos ⟨queued, idle⟩, fun off => if_neg ?_,
    exec_alsExec_of_idle, fun off => if_neg ?_, exec_proxExec_of_idle⟩
  · rcases off with h | h <;> simp [h]
  · rcases off with h | h <;> simp [h]

theorem lightPass_of_disabled {s : State} (disabled : s.alsEn = false) : lightPass s = { s with alsBusy := false } :=
  if_neg (Bool.eq_false_iff.mp disabled)

theorem proxPass_of_disabled {s : State} (disabled : s.proxEn = false) : proxPass s = { s with proxBusy := false } :=
  if_neg (Bool.eq_false_iff.mp disabled)

/-- Settles O42. -/
theorem disabledModePassIsNoop : Obligations.DisabledModePassIsNoop := by
  refine fun s => ⟨fun busy disabled => ?_, fun busy disabled => ?_⟩
  · rw [exec_alsExec_of_busy busy, lightPass_of_disabled disabled]
  · rw [exec_proxExec_of_busy busy, proxPass_of_disabled disabled]

/-! ## A pipeline (R24, R85) -/

/-- A pipeline's two flags and its two operations, with what ties them to the model: where the operations are enabled,
and what a turn does to the flags. -/
structure Pipeline where
  pending : State → Bool
  busy : State → Bool
  dequeue : Pick
  execute : Pick
  dequeue_fair : dequeue ∈ [Pick.alsDeq, .alsExec, .proxDeq, .proxExec]
  execute_fair : execute ∈ [Pick.alsDeq, .alsExec, .proxDeq, .proxExec]
  execute_ne_dequeue : execute ≠ dequeue
  dequeue_enabled : ∀ s, unitEnabled dequeue s = true ↔ pending s = true ∧ busy s = false
  execute_enabled : ∀ s, unitEnabled execute s = true ↔ busy s = true
  turn_busy : ∀ {p s t}, TurnEffect p s t → busy t = turnBusy dequeue execute p (pending s) (busy s)
  turn_pending : ∀ {p s t}, TurnEffect p s t → turnPending dequeue p s.hostCmd (pending s) (busy s) (pending t)

/-- The light pipeline (R89, R91). -/
def lightPipeline : Pipeline where
  pending := State.alsPending
  busy := State.alsBusy
  dequeue := .alsDeq
  execute := .alsExec
  dequeue_fair := by decide
  execute_fair := by decide
  execute_ne_dequeue := by decide
  dequeue_enabled := alsDeqEnabled_iff
  execute_enabled := alsExecEnabled_iff
  turn_busy := TurnEffect.lightBusy
  turn_pending := TurnEffect.lightPending

/-- The proximity pipeline (R90, R92). -/
def proxPipeline : Pipeline where
  pending := State.proxPending
  busy := State.proxBusy
  dequeue := .proxDeq
  execute := .proxExec
  dequeue_fair := by decide
  execute_fair := by decide
  execute_ne_dequeue := by decide
  dequeue_enabled := proxDeqEnabled_iff
  execute_enabled := proxExecEnabled_iff
  turn_busy := TurnEffect.proxBusy
  turn_pending := TurnEffect.proxPending

namespace Pipeline
variable {u : Pipeline} {p : Pick} {s t : State}

/-- R93: no turn but its own dequeue and a reset takes a queued pass off the queue. -/
theorem pending_of_turn (effect : TurnEffect p s t) (notDequeue : p ≠ u.dequeue) (notReset : p ≠ .reset)
    (queued : u.pending s = true) : u.pending t = true := by
  have after := u.turn_pending effect
  rw [turnPending, if_neg notDequeue, if_neg notReset] at after
  exact after.1 queued

/-- R85: a dequeue is not enabled while a pass is in flight, so the queued pass stays queued. -/
theorem pending_of_turn_while_busy (effect : TurnEffect p s t) (notReset : p ≠ .reset) (queued : u.pending s = true)
    (busy : u.busy s = true) : u.pending t = true := by
  by_cases dequeues : p = u.dequeue
  · have after := u.turn_pending effect
    rw [turnPending, if_pos dequeues, queued, busy] at after
    exact after
  · exact pending_of_turn effect dequeues notReset queued

/-- R93: apart from its own dequeue and a reset, only a pipeline's execution writes its busy flag, and clears it. -/
theorem busy_of_turn (effect : TurnEffect p s t) (notDequeue : p ≠ u.dequeue) (notReset : p ≠ .reset) :
    u.busy t = (u.busy s && !(p == u.execute)) := by
  rw [u.turn_busy effect, turnBusy, if_neg notDequeue]
  by_cases executes : p = u.execute <;> simp [executes, notReset]

/-- A pass in flight stays so until it executes. -/
theorem busy_of_turn_while_busy (effect : TurnEffect p s t) (notExecute : p ≠ u.execute) (notReset : p ≠ .reset)
    (busy : u.busy s = true) : u.busy t = true := by
  rw [u.turn_busy effect, turnBusy, busy]
  by_cases dequeues : p = u.dequeue <;> simp [dequeues, notExecute, notReset]

/-- R89, R90: its dequeue of a queued pass puts it in flight. -/
theorem busy_of_dequeue (effect : TurnEffect u.dequeue s t) (queued : u.pending s = true) : u.busy t = true := by
  rw [u.turn_busy effect, turnBusy, if_pos rfl, queued, Bool.true_or]

theorem idle_of_execute (effect : TurnEffect u.execute s t) : u.busy t = false := by
  rw [u.turn_busy effect, turnBusy, if_neg u.execute_ne_dequeue, if_pos (.inl rfl)]

/-! ## Coalescing (R93) -/

/-- R93 of one pipeline, by induction on the choices. -/
theorem requests_coalesce (u : Pipeline) {ps : List Pick} (others : ∀ p ∈ ps, p ≠ u.dequeue ∧ p ≠ .reset) {s : State}
    (queued : u.pending s = true) :
    ∃ t, runPicks ps s = .next t ∧ u.pending t = true ∧ u.busy t = (u.busy s && !ps.contains u.execute) := by
  induction ps generalizing s with
  | nil => exact ⟨s, rfl, queued, by simp⟩
  | cons p rest ih =>
    obtain ⟨⟨notDequeue, notReset⟩, others⟩ := List.forall_mem_cons.mp others
    obtain ⟨m, turn, effect⟩ := runPick_effect p s
    obtain ⟨t, run, stillQueued, busy⟩ := ih others (pending_of_turn effect notDequeue notReset queued)
    refine ⟨t, by rw [runPicks, turn]; exact run, stillQueued, ?_⟩
    rw [busy, busy_of_turn effect notDequeue notReset, Bool.and_assoc, ← Bool.not_or, BEq.comm,
      List.contains_cons]

end Pipeline

/-- Settles O49. -/
theorem requestsCoalesce : Obligations.RequestsCoalesce := fun _ _ =>
  ⟨fun queued others => lightPipeline.requests_coalesce others queued,
    fun queued others => proxPipeline.requests_coalesce others queued⟩

/-! ## Fair runs (R85) -/

section
variable {states : Nat → State} {picks : Nat → Pick}

theorem TurnEffect.of_isRun (run : isRun states picks) (n : Nat) :
    TurnEffect (picks n) (states n) (states (n + 1)) := by
  obtain ⟨t, turn, effect⟩ := runPick_effect (picks n) (states n)
  cases (run n).symm.trans turn
  exact effect

/-- The rule of weak fairness: an operation that is enabled wherever `I` holds is taken where it holds, if only its own
turn can end `I`. -/
theorem weaklyFair.taken_of_invariant (fair : weaklyFair states picks) {p : Pick}
    (unit : p ∈ [Pick.alsDeq, .alsExec, .proxDeq, .proxExec]) {I : State → Prop}
    (enabled : ∀ s, I s → unitEnabled p s = true) {n : Nat} (start : I (states n))
    (keep : ∀ m, n ≤ m → picks m ≠ p → I (states m) → I (states (m + 1))) :
    ∃ m, n ≤ m ∧ picks m = p ∧ I (states m) := by
  by_contra! never
  have always : ∀ m, n ≤ m → I (states m) := fun m later =>
    Nat.le_induction start (fun k after holds => keep k after (fun taken => never k after taken holds) holds) m later
  obtain ⟨m, later, taken⟩ := fair p unit n fun m later => enabled _ (always m later)
  exact never m later taken (always m later)

/-- A pass in flight is executed, unless a reset discards it. -/
theorem Pipeline.executed_of_busy (u : Pipeline) (run : isRun states picks) (fair : weaklyFair states picks) {n : Nat}
    (noReset : ∀ m, n ≤ m → picks m ≠ .reset) (busy : u.busy (states n) = true) :
    ∃ k, n ≤ k ∧ picks k = u.execute ∧ u.busy (states k) = true :=
  fair.taken_of_invariant u.execute_fair (I := fun s => u.busy s = true) (fun s => (u.execute_enabled s).mpr) busy
    fun m later notExecute => busy_of_turn_while_busy (.of_isRun run m) notExecute (noReset m later)

/-- A queued pass with none in flight is dequeued, unless a reset discards it. -/
theorem Pipeline.dequeued_of_idle (u : Pipeline) (run : isRun states picks) (fair : weaklyFair states picks) {n : Nat}
    (noReset : ∀ m, n ≤ m → picks m ≠ .reset) (queued : u.pending (states n) = true)
    (idle : u.busy (states n) = false) :
    ∃ m, n ≤ m ∧ picks m = u.dequeue ∧ u.pending (states m) = true ∧ u.busy (states m) = false := by
  refine fair.taken_of_invariant u.dequeue_fair (I := fun s => u.pending s = true ∧ u.busy s = false)
    (fun s => (u.dequeue_enabled s).mpr) ⟨queued, idle⟩ ?_
  intro m later notDequeue ⟨queued, idle⟩
  have effect := TurnEffect.of_isRun run m
  refine ⟨pending_of_turn effect notDequeue (noReset m later) queued, ?_⟩
  rw [busy_of_turn effect notDequeue (noReset m later), idle, Bool.false_and]

/-- A queued pass is dequeued, unless a reset discards it: one that is in flight before it executes first. -/
theorem Pipeline.dequeued_of_queued (u : Pipeline) (run : isRun states picks) (fair : weaklyFair states picks) {n : Nat}
    (noReset : ∀ m, n ≤ m → picks m ≠ .reset) (queued : u.pending (states n) = true) :
    ∃ m, n ≤ m ∧ picks m = u.dequeue ∧ u.pending (states m) = true ∧ u.busy (states m) = false := by
  cases busy : u.busy (states n) with
  | false => exact u.dequeued_of_idle run fair noReset queued busy
  | true =>
    obtain ⟨m, later, executes, queued, busy⟩ :=
      fair.taken_of_invariant u.execute_fair (I := fun s => u.pending s = true ∧ u.busy s = true)
        (fun s both => (u.execute_enabled s).mpr both.2) ⟨queued, busy⟩
        fun m later notExecute ⟨queued, busy⟩ =>
          have effect := TurnEffect.of_isRun run m
          ⟨pending_of_turn_while_busy effect (noReset m later) queued busy,
            busy_of_turn_while_busy effect notExecute (noReset m later) busy⟩
    have effect := TurnEffect.of_isRun run m
    have stillQueued := pending_of_turn_while_busy effect (noReset m later) queued busy
    have idle : u.busy (states (m + 1)) = false := by
      rw [executes] at effect
      exact idle_of_execute effect
    obtain ⟨k, after, dequeued⟩ :=
      u.dequeued_of_idle run fair (fun j after => noReset j (by omega)) stillQueued idle
    exact ⟨k, by omega, dequeued⟩

/-- R85 of one pipeline. -/
theorem Pipeline.fair_run_executes (u : Pipeline) (run : isRun states picks) (fair : weaklyFair states picks) {n : Nat}
    (queued : u.pending (states n) = true) :
    (∃ m, n ≤ m ∧ picks m = .reset)
      ∨ ∃ m k, n ≤ m ∧ m < k ∧ picks m = u.dequeue ∧ unitEnabled u.dequeue (states m) = true
        ∧ picks k = u.execute ∧ unitEnabled u.execute (states k) = true := by
  by_cases reset : ∃ m, n ≤ m ∧ picks m = .reset
  · exact .inl reset
  · have noReset : ∀ m, n ≤ m → picks m ≠ .reset := fun m later taken => reset ⟨m, later, taken⟩
    obtain ⟨m, later, dequeues, queued, idle⟩ := u.dequeued_of_queued run fair noReset queued
    have effect := TurnEffect.of_isRun run m
    rw [dequeues] at effect
    obtain ⟨k, after, executes, busy⟩ :=
      u.executed_of_busy run fair (fun j after => noReset j (by omega)) (busy_of_dequeue effect queued)
    exact .inr ⟨m, k, later, after, dequeues, (u.dequeue_enabled _).mpr ⟨queued, idle⟩, executes,
      (u.execute_enabled _).mpr busy⟩

end

/-- Settles O50. -/
theorem fairRunsExecuteEveryQueuedPass : Obligations.FairRunsExecuteEveryQueuedPass := fun _ _ run fair _ =>
  ⟨lightPipeline.fair_run_executes run fair, proxPipeline.fair_run_executes run fair⟩

end Sys2Proof.Machine
end

section
/-! SUPPORT. The statements on the two pipeline passes (R91, R92, R95). A pass is a list of transactions, known from its
first answer on, and an end: `issueAll` runs such a list, and what it does while the sensor answers and at its first
`Err` is said once, by induction on the list. -/

namespace Sys2Proof.Machine

/-! ## A list of transactions (R9, R33, R34) -/

/-- One transaction, given by its entry for each answer, whose reply is not used: a word write and a special function
are such, and a read is one by `andThen_memRead`. -/
def issue (entry : Answer → PortEvent) : Op Unit := fun s =>
  (if (s.answerAt 0).ok then .ok () else .error .transportError, s.record (entry (s.answerAt 0)))

theorem issue_ok {entry : Answer → PortEvent} {s : State} (answered : (s.answerAt 0).ok = true) :
    issue entry s = (.ok (), s.record (entry (s.answerAt 0))) := by
  simp [issue, answered]

theorem issue_err {entry : Answer → PortEvent} {s : State} (failed : (s.answerAt 0).ok = false) :
    issue entry s = (.error .transportError, s.record (entry (s.answerAt 0))) := by
  simp [issue, failed]

/-- From a given state on, what follows a read may name the bytes that the next answer holds. -/
theorem andThen_memRead {α : Type} {agent : Agent} {addr : SensorAddr} {n : Nat} (f : List Byte → Op α) (s : State) :
    Op.andThen (memRead agent addr n) f s
      = Op.andThen (issue (readEvent agent addr n)) (fun _ => f (answerBytes (s.answerAt 0) n)) s := by
  cases read : (s.answerAt 0).ok with
  | false => rw [Op.andThen_error (memRead_err read), Op.andThen_error (issue_err read)]
  | true => rw [Op.andThen_ok (memRead_ok read), Op.andThen_ok (issue_ok read)]

/-- Transactions one after another, then `last`. -/
def issueAll {α : Type} : List (Answer → PortEvent) → Op α → Op α
  | [], last => last
  | entry :: rest, last => Op.andThen (issue entry) fun _ => issueAll rest last

/-- The entries of transactions issued one after another from `s`, with the answers they would get. -/
def answeredEntries (s : State) (requests : List (Answer → PortEvent)) : List PortEvent :=
  requests.mapIdx fun k entry => entry (s.answerAt k)

theorem answeredEntries_cons (s : State) (entry : Answer → PortEvent) (rest : List (Answer → PortEvent)) :
    answeredEntries s (entry :: rest)
      = entry (s.answerAt 0) :: answeredEntries (s.record (entry (s.answerAt 0))) rest := by
  simp only [answeredEntries, List.mapIdx_cons, State.answerAt_record, Nat.add_comm 1]

theorem State.record_afterTransactions (s : State) (e : PortEvent) (es : List PortEvent) :
    (s.record e).afterTransactions es = s.afterTransactions (e :: es) := by
  rw [State.record_eq, State.afterTransactions_append, List.singleton_append]

/-- While the sensor answers, every transaction is issued and `last` follows. -/
theorem issueAll_ok {α : Type} {requests : List (Answer → PortEvent)} (last : Op α) {s : State}
    (answered : ∀ k < requests.length, (s.answerAt k).ok = true) :
    issueAll requests last s = last (s.afterTransactions (answeredEntries s requests)) := by
  induction requests generalizing s with
  | nil => rw [answeredEntries, List.mapIdx_nil, State.afterTransactions_nil, issueAll]
  | cons entry rest ih =>
    rw [issueAll, Op.andThen_ok (issue_ok (answered 0 (Nat.succ_pos _))), ih, answeredEntries_cons,
      State.record_afterTransactions]
    intro k within
    rw [State.answerAt_record, Nat.add_comm]
    exact answered (k + 1) (Nat.succ_lt_succ within)

/-- R34: the first `Err` ends the list, with the transactions up to it issued. -/
theorem issueAll_of_first_err {α : Type} {requests : List (Answer → PortEvent)} (last : Op α) {k : Nat} {s : State}
    (within : k < requests.length) (answered : ∀ j < k, (s.answerAt j).ok = true)
    (failed : (s.answerAt k).ok = false) :
    issueAll requests last s
      = (.error .transportError, s.afterTransactions ((answeredEntries s requests).take (k + 1))) := by
  induction requests generalizing k s with
  | nil => exact absurd within (Nat.not_lt_zero k)
  | cons entry rest ih =>
    rw [answeredEntries_cons, List.take_succ_cons]
    cases k with
    | zero => exact Op.andThen_error (issue_err failed)
    | succ k =>
      rw [issueAll, Op.andThen_ok (issue_ok (answered 0 (Nat.succ_pos k))), ih (Nat.lt_of_succ_lt_succ within),
        State.record_afterTransactions]
      · intro j before
        rw [State.answerAt_record, Nat.add_comm]
        exact answered (j + 1) (Nat.succ_lt_succ before)
      · rwa [State.answerAt_record, Nat.add_comm]

/-- Of the next `n` answers, all are `Ok` or there is a first `Err`. -/
theorem answers_ok_or_first_err (s : State) (n : Nat) :
    (∀ k < n, (s.answerAt k).ok = true)
      ∨ ∃ k < n, (∀ j < k, (s.answerAt j).ok = true) ∧ (s.answerAt k).ok = false := by
  induction n with
  | zero => exact .inl nofun
  | succ n ih =>
    rcases ih with answered | ⟨k, within, first⟩
    · cases next : (s.answerAt n).ok with
      | false => exact .inr ⟨n, Nat.lt_succ_self n, answered, next⟩
      | true => exact .inl (Nat.forall_lt_succ_right.mpr ⟨answered, next⟩)
    · exact .inr ⟨k, Nat.lt_succ_of_lt within, first⟩

/-! ## The light pass (R91) -/

/-- The four transactions of a light pass, for any answers to the last three. -/
def lightRequests (s : State) : List (Answer → PortEvent) :=
  let clear := clearChannel (answerBytes (s.answerAt 0) 4)
  [readEvent .lightUnit s.params.regData 4,
   writeEvent .lightUnit s.params.regAilt (alsWindowLo clear),
   writeEvent .lightUnit s.params.regAiht (alsWindowHi clear),
   functionEvent .lightUnit sfAlsCode]

theorem answeredEntries_lightRequests (s : State) : answeredEntries s (lightRequests s) = lightEntries s := rfl

/-- What `LuxEval` makes of the first answer. -/
def lightEval (s : State) : Except ErrorKind Nat :=
  luxEval s.cfg s.derived ((s.answerAt 0).data.extractLsb' 0 16) ((s.answerAt 0).data.extractLsb' 16 16)

/-- The end of a light pass: `LuxEval`'s value, or the error it raises. -/
def lightEnd : Except ErrorKind Nat → Op Lux
  | .ok v => Op.done (BitVec.ofNat 32 v)
  | .error e => Op.fail e

/-- R91: a light pass is its four transactions and their end. -/
theorem lightBody_eq_issueAll (s : State) : lightBody s = issueAll (lightRequests s) (lightEnd (lightEval s)) s := by
  have clear : clearChannel (answerBytes (s.answerAt 0) 4) = (s.answerAt 0).data.extractLsb' 0 16 :=
    burstChannel_answerBytes _ (by decide)
  have ir : irChannel (answerBytes (s.answerAt 0) 4) = (s.answerAt 0).data.extractLsb' 16 16 :=
    burstChannel_answerBytes _ (by decide)
  rw [lightBody, andThen_memRead, lightRequests, clear, ir]
  rfl

theorem lightBody_of_answered {s : State} (answered : ∀ k < 4, (s.answerAt k).ok = true) :
    lightBody s = lightEnd (lightEval s) (s.afterTransactions (lightEntries s)) := by
  rw [lightBody_eq_issueAll, issueAll_ok (requests := lightRequests s) _ answered, answeredEntries_lightRequests]

theorem lightBody_ok {s : State} {v : Nat} (answered : ∀ k < 4, (s.answerAt k).ok = true)
    (eval : lightEval s = .ok v) :
    lightBody s = (.ok (BitVec.ofNat 32 v), s.afterTransactions (lightEntries s)) := by
  rw [lightBody_of_answered answered, eval]
  rfl

/-- An error of `LuxEval` ends a light pass after its four transactions. -/
theorem lightBody_of_eval_error {s : State} {e : ErrorKind} (answered : ∀ k < 4, (s.answerAt k).ok = true)
    (eval : lightEval s = .error e) : lightBody s = (.error e, s.afterTransactions (lightEntries s)) := by
  rw [lightBody_of_answered answered, eval]
  rfl

/-- R107: the first `Err` of a light pass ends it with TransportError. -/
theorem lightBody_of_first_err {s : State} {k : Nat} (within : k < 4) (answered : ∀ j < k, (s.answerAt j).ok = true)
    (failed : (s.answerAt k).ok = false) :
    lightBody s = (.error .transportError, s.afterTransactions ((lightEntries s).take (k + 1))) := by
  rw [lightBody_eq_issueAll, issueAll_of_first_err _ within answered failed, answeredEntries_lightRequests]

/-- Everything a light pass's body can end with: a first `Err`, an error of `LuxEval`, or its value. -/
theorem lightBody_cases (s : State) :
    (∃ k < 4, (∀ j < k, (s.answerAt j).ok = true) ∧ (s.answerAt k).ok = false
        ∧ lightBody s = (.error .transportError, s.afterTransactions ((lightEntries s).take (k + 1))))
      ∨ ((∀ k < 4, (s.answerAt k).ok = true)
        ∧ lightBody s = (.error .outOfRange, s.afterTransactions (lightEntries s)))
      ∨ ∃ v, lightBody s = (.ok v, s.afterTransactions (lightEntries s)) := by
  rcases answers_ok_or_first_err s 4 with answered | ⟨k, within, answered, failed⟩
  · rcases luxEval_cases s.cfg s.derived _ _ with eval | ⟨v, -, eval⟩
    · exact .inr (.inl ⟨answered, lightBody_of_eval_error answered eval⟩)
    · exact .inr (.inr ⟨_, lightBody_ok answered eval⟩)
  · exact .inl ⟨k, within, answered, failed, lightBody_of_first_err within answered failed⟩

theorem exec_alsExec_of_ok {s t : State} {v : Lux} (busy : s.alsBusy = true) (enabled : s.alsEn = true)
    (result : lightBody s = (.ok v, t)) : exec .alsExec s = .next (t.commitLight v) := by
  rw [exec_alsExec_of_busy busy, lightPass, if_pos enabled, result]

theorem exec_alsExec_of_error {s t : State} {e : ErrorKind} (busy : s.alsBusy = true) (enabled : s.alsEn = true)
    (result : lightBody s = (.error e, t)) : exec .alsExec s = .next (t.abortLight e) := by
  rw [exec_alsExec_of_busy busy, lightPass, if_pos enabled, result]

/-- Settles O43. -/
theorem lightPassPublishesTheFilteredLux : Obligations.LightPassPublishesTheFilteredLux :=
  fun _ _ busy enabled answered eval => exec_alsExec_of_ok busy enabled (lightBody_ok answered eval)

/-- Settles O44, by what stops the pass. -/
theorem lightPassStopsAtItsFirstError : Obligations.LightPassStopsAtItsFirstError := by
  refine fun s busy enabled => ⟨fun k within answered failed => ?_, fun answered selector => ?_⟩
  · exact exec_alsExec_of_error busy enabled (lightBody_of_first_err within answered failed)
  · have eval : lightEval s = .error .outOfRange := luxEval_of_gainOf_none ((gainOf_eq_none_iff _).mpr selector) ..
    exact exec_alsExec_of_error busy enabled (lightBody_of_eval_error answered eval)

/-! ## The proximity pass (R92) -/

/-- The four transactions of a proximity pass, for any answers to the last three. -/
def proxRequests (s : State) : List (Answer → PortEvent) :=
  let compared := proxCompare s (proxChannel (answerBytes (s.answerAt 0) 6))
  [readEvent .proxUnit s.params.regData 6,
   writeEvent .proxUnit s.params.regPilt compared.lo,
   writeEvent .proxUnit s.params.regPiht compared.hi,
   functionEvent .proxUnit sfProxCode]

theorem answeredEntries_proxRequests (s : State) : answeredEntries s (proxRequests s) = proxEntries s := rfl

/-- R80: whether the first answer's clear channel trips the ambient guard. -/
def readSwamped (s : State) : Bool := ambientSwamped s.derived.satAls ((s.answerAt 0).data.extractLsb' 0 16)

/-- What a proximity pass publishes if nothing stops it: the first answer's readings, compared. -/
def proxResult (s : State) : ProxResult where
  clear := (s.answerAt 0).data.extractLsb' 0 16
  raw := (s.answerAt 0).data.extractLsb' 32 16
  compared := proxCompare s ((s.answerAt 0).data.extractLsb' 32 16)

/-- R92: a proximity pass is its read, then the guard's abort or the three other transactions and the result. -/
theorem proxBody_eq_andThen (s : State) :
    proxBody s
      = Op.andThen (issue (readEvent .proxUnit s.params.regData 6))
          (fun _ => if readSwamped s then Op.fail .noData
            else issueAll (proxRequests s).tail (Op.done (proxResult s))) s := by
  have clear : clearChannel (answerBytes (s.answerAt 0) 6) = (s.answerAt 0).data.extractLsb' 0 16 :=
    burstChannel_answerBytes _ (by decide)
  have raw : proxChannel (answerBytes (s.answerAt 0) 6) = (s.answerAt 0).data.extractLsb' 32 16 :=
    burstChannel_answerBytes _ (by decide)
  rw [proxBody, andThen_memRead, proxRequests, clear, raw]
  rfl

/-- Where the guard does not fire, a proximity pass is its four transactions and the result. -/
theorem proxBody_of_not_swamped {s : State} (unswamped : readSwamped s = false) :
    proxBody s = issueAll (proxRequests s) (Op.done (proxResult s)) s := by
  rw [proxBody_eq_andThen, unswamped]
  rfl

theorem proxBody_of_read_err {s : State} (failed : (s.answerAt 0).ok = false) :
    proxBody s = (.error .transportError, s.afterTransactions ((proxEntries s).take 1)) :=
  (proxBody_eq_andThen s).trans (Op.andThen_error (issue_err failed))

/-- R80: the guard ends a proximity pass after its read. -/
theorem proxBody_of_swamped {s : State} (answered : (s.answerAt 0).ok = true) (swamped : readSwamped s = true) :
    proxBody s = (.error .noData, s.afterTransactions ((proxEntries s).take 1)) := by
  rw [proxBody_eq_andThen, Op.andThen_ok (issue_ok answered), swamped]
  rfl

theorem proxBody_ok {s : State} (answered : ∀ k < 4, (s.answerAt k).ok = true) (unswamped : readSwamped s = false) :
    proxBody s = (.ok (proxResult s), s.afterTransactions (proxEntries s)) := by
  rw [proxBody_of_not_swamped unswamped, issueAll_ok (requests := proxRequests s) _ answered,
    answeredEntries_proxRequests]
  rfl

/-- R107: the first `Err` of a proximity pass whose guard does not fire ends it with TransportError. -/
theorem proxBody_of_first_err {s : State} {k : Nat} (within : k < 4) (answered : ∀ j < k, (s.answerAt j).ok = true)
    (failed : (s.answerAt k).ok = false) (unswamped : readSwamped s = false) :
    proxBody s = (.error .transportError, s.afterTransactions ((proxEntries s).take (k + 1))) := by
  rw [proxBody_of_not_swamped unswamped, issueAll_of_first_err _ within answered failed, answeredEntries_proxRequests]

/-- Everything a proximity pass's body can end with: a first `Err`, the guard after the read, or its result. -/
theorem proxBody_cases (s : State) :
    (∃ k < 4, (∀ j < k, (s.answerAt j).ok = true) ∧ (s.answerAt k).ok = false
        ∧ proxBody s = (.error .transportError, s.afterTransactions ((proxEntries s).take (k + 1))))
      ∨ ((s.answerAt 0).ok = true ∧ readSwamped s = true
        ∧ proxBody s = (.error .noData, s.afterTransactions ((proxEntries s).take 1)))
      ∨ proxBody s = (.ok (proxResult s), s.afterTransactions (proxEntries s)) := by
  cases guard : readSwamped s with
  | false =>
    rcases answers_ok_or_first_err s 4 with answered | ⟨k, within, answered, failed⟩
    · exact .inr (.inr (proxBody_ok answered guard))
    · exact .inl ⟨k, within, answered, failed, proxBody_of_first_err within answered failed guard⟩
  | true =>
    cases read : (s.answerAt 0).ok with
    | false =>
      have none_before : ∀ j < 0, (s.answerAt j).ok = true := fun j before => absurd before (Nat.not_lt_zero j)
      exact .inl ⟨0, by decide, none_before, read, proxBody_of_read_err read⟩
    | true => exact .inr (.inl ⟨rfl, rfl, proxBody_of_swamped read guard⟩)

theorem exec_proxExec_of_ok {s t : State} {r : ProxResult} (busy : s.proxBusy = true) (enabled : s.proxEn = true)
    (result : proxBody s = (.ok r, t)) : exec .proxExec s = .next (t.commitProx r) := by
  rw [exec_proxExec_of_busy busy, proxPass, if_pos enabled, result]

theorem exec_proxExec_of_error {s t : State} {e : ErrorKind} (busy : s.proxBusy = true) (enabled : s.proxEn = true)
    (result : proxBody s = (.error e, t)) : exec .proxExec s = .next (t.abortProx e) := by
  rw [exec_proxExec_of_busy busy, proxPass, if_pos enabled, result]

/-- Settles O45. -/
theorem proxPassPublishesTheComparison : Obligations.ProxPassPublishesTheComparison :=
  fun _ busy enabled answered unswamped => exec_proxExec_of_ok busy enabled (proxBody_ok answered unswamped)

/-- Settles O46, by what stops the pass. -/
theorem proxPassStopsAtItsFirstError : Obligations.ProxPassStopsAtItsFirstError := by
  intro s busy enabled
  refine ⟨fun failed => ?_, fun answered swamped => ?_, fun unswamped k _ within answered failed => ?_⟩
  · exact exec_proxExec_of_error busy enabled (proxBody_of_read_err failed)
  · exact exec_proxExec_of_error busy enabled (proxBody_of_swamped answered swamped)
  · exact exec_proxExec_of_error busy enabled (proxBody_of_first_err within answered failed unswamped)

/-! ## Aborted passes (R95) -/

/-- Settles O47, by the cases of each pass's body. -/
theorem resultsSurviveAbortedPasses : Obligations.ResultsSurviveAbortedPasses := by
  refine fun s => ⟨fun busy enabled => ?_, fun busy enabled => ?_⟩
  · rcases lightBody_cases s with ⟨k, within, answered, failed, body⟩ | ⟨answered, body⟩ | ⟨v, body⟩
    · exact ⟨_, exec_alsExec_of_error busy enabled body, .inr (.inl ⟨k, within, answered, failed, rfl⟩)⟩
    · exact ⟨_, exec_alsExec_of_error busy enabled body, .inr (.inr ⟨answered, rfl⟩)⟩
    · exact ⟨_, exec_alsExec_of_ok busy enabled body, .inl rfl⟩
  · rcases proxBody_cases s with ⟨k, within, answered, failed, body⟩ | ⟨answered, swamped, body⟩ | body
    · exact ⟨_, exec_proxExec_of_error busy enabled body, .inr (.inl ⟨k, within, answered, failed, rfl⟩)⟩
    · exact ⟨_, exec_proxExec_of_error busy enabled body, .inr (.inr ⟨answered, swamped, rfl⟩)⟩
    · exact ⟨_, exec_proxExec_of_ok busy enabled body, .inl rfl⟩

/-! ## The passes do not interfere (R91, R93) -/

theorem blankProx_portBlind : PortBlind State.blankProx where
  answer _ := rfl
  record _ _ := rfl

/-- R91: the light pass's transactions and `LuxEval` read no proximity register. -/
theorem lightBody_blankProx (s : State) : lightBody s.blankProx = ((lightBody s).1, (lightBody s).2.blankProx) :=
  (lightOp_commutes blankProx_portBlind s.params (luxEval s.cfg s.derived)).run s

theorem lightPass_blankProx (s : State) : (lightPass s.blankProx).blankProx = (lightPass s).blankProx := by
  unfold lightPass
  rw [lightBody_blankProx]
  refine apply_ite_congr State.blankProx ?_ rfl
  rcases lightBody s with ⟨_ | v, t⟩ <;> rfl

/-- Through the view that blanks the proximity registers, a light pass does from a state what it does from the blanked
state. -/
theorem exec_alsExec_blankProx (s : State) :
    viewOutcome State.blankProx (exec .alsExec s.blankProx) = viewOutcome State.blankProx (exec .alsExec s) :=
  apply_ite_congr (viewOutcome State.blankProx) (congrArg Host.Outcome.next (lightPass_blankProx s)) rfl

/-- Everything a light pass can leave: a noop but for its busy flag, or a commit or an abort after some transactions. -/
theorem lightPass_cases (s : State) :
    lightPass s = { s with alsBusy := false }
      ∨ ∃ es, (∃ v, lightPass s = (s.afterTransactions es).commitLight v)
        ∨ ∃ e, lightPass s = (s.afterTransactions es).abortLight e := by
  obtain ⟨es, frame, -⟩ := lightBody_frame s
  unfold lightPass
  split
  · refine .inr ⟨es, ?_⟩
    rw [← frame]
    rcases lightBody s with ⟨e | v, t⟩
    · exact .inr ⟨e, rfl⟩
    · exact .inl ⟨v, rfl⟩
  · exact .inl rfl

/-- Everything a proximity pass can leave, in the same way. -/
theorem proxPass_cases (s : State) :
    proxPass s = { s with proxBusy := false }
      ∨ ∃ es, (∃ r, proxPass s = (s.afterTransactions es).commitProx r)
        ∨ ∃ e, proxPass s = (s.afterTransactions es).abortProx e := by
  obtain ⟨es, frame, -⟩ := proxBody_frame s
  unfold proxPass
  split
  · refine .inr ⟨es, ?_⟩
    rw [← frame]
    rcases proxBody s with ⟨e | r, t⟩
    · exact .inr ⟨e, rfl⟩
    · exact .inl ⟨r, rfl⟩
  · exact .inl rfl

theorem lightPass_sameProx (s : State) : sameProx s (lightPass s) := by
  rcases lightPass_cases s with h | ⟨es, ⟨v, h⟩ | ⟨e, h⟩⟩ <;> rw [h]
  · exact ⟨rfl, rfl, rfl, rfl, rfl, rfl, rfl, rfl, rfl, rfl⟩
  · exact ⟨rfl, rfl, rfl, rfl, rfl, rfl, rfl, rfl, rfl, rfl⟩
  · exact ⟨rfl, rfl, rfl, rfl, rfl, rfl, rfl, rfl, rfl, rfl⟩

theorem proxPass_sameLight (s : State) : sameLight s (proxPass s) := by
  rcases proxPass_cases s with h | ⟨es, ⟨r, h⟩ | ⟨e, h⟩⟩ <;> rw [h]
  · exact ⟨rfl, rfl, rfl, rfl, rfl, rfl⟩
  · exact ⟨rfl, rfl, rfl, rfl, rfl, rfl⟩
  · exact ⟨rfl, rfl, rfl, rfl, rfl, rfl⟩

/-- Settles O48. -/
theorem passesDoNotInterfere : Obligations.PassesDoNotInterfere := by
  refine ⟨fun s s' same => ?_, fun s t run => ?_, fun s t run => ?_⟩
  · rw [agreeThrough_iff, ← exec_alsExec_blankProx s, same, exec_alsExec_blankProx s']
  · cases next_of_guarded run nofun
    exact lightPass_sameProx s
  · cases next_of_guarded run nofun
    exact proxPass_sameLight s

end Sys2Proof.Machine
end

section
/-! SUPPORT. The statements on the control commands (R97 to R102). First what each command does in each of its cases, in
the model's own operations (restart, arming, response); then the statements, which spell those operations out. -/

namespace Sys2Proof.Machine

/-! ## The mode commands (R97, R98, R101, R102) -/

theorem exec_lightOn_enabled {s : State} (enabled : s.alsEn = true) : exec .lightOn s = .next (s.respondOk []) :=
  congrArg Host.Outcome.next (if_pos enabled)

theorem exec_lightOn_disabled {s : State} (disabled : ¬ s.alsEn = true) :
    exec .lightOn s = .next ((State.medianRestart { s with alsEn := true }).respondOk []) :=
  congrArg Host.Outcome.next (if_neg disabled)

/-- Settles O52, by the mode it finds. -/
theorem lightOnRestartsOnTheTransition : Obligations.LightOnRestartsOnTheTransition := by
  refine ⟨rfl, fun s => ?_⟩
  split
  case isTrue enabled => exact exec_lightOn_enabled enabled
  case isFalse disabled => exact exec_lightOn_disabled disabled

theorem exec_proxOn_enabled {s : State} (enabled : s.proxEn = true) : exec .proxOn s = .next (s.respondOk []) :=
  congrArg Host.Outcome.next (if_pos enabled)

theorem exec_proxOn_disabled {s : State} (disabled : ¬ s.proxEn = true) :
    exec .proxOn s = .next (s.armProximity.respondOk []) :=
  congrArg Host.Outcome.next (if_neg disabled)

/-- Settles O56, by the mode it finds. -/
theorem proxOnArmsTheConfiguredPair : Obligations.ProxOnArmsTheConfiguredPair := by
  refine ⟨rfl, fun s => ?_⟩
  split
  case isTrue enabled => exact exec_proxOn_enabled enabled
  case isFalse disabled => exact exec_proxOn_disabled disabled

/-- Settles O53. -/
theorem offCommandsClearTheirModeBit : Obligations.OffCommandsClearTheirModeBit :=
  ⟨rfl, rfl, fun _ => ⟨rfl, rfl⟩⟩

/-! ## READ_LIGHT (R99) -/

/-- R46: the lux integer, byte by byte. -/
theorem luxPayload_eq (v : Lux) :
    luxPayload v = [v.extractLsb' 0 8, v.extractLsb' 8 8, v.extractLsb' 16 8, v.extractLsb' 24 8] :=
  bytesLe_toNat 4 v

theorem exec_readLight_of_none {s : State} (unpublished : s.luxPub = none) :
    exec .readLight s = .next (s.respondError .noData) := by
  simp only [exec, execReadLight, unpublished]

theorem exec_readLight_of_some {s : State} {v : Lux} (published : s.luxPub = some v) :
    exec .readLight s = .next (s.respondOk (luxPayload v)) := by
  simp only [exec, execReadLight, published]

/-- Settles O54, by what is published. -/
theorem readLightReturnsThePublishedLux : Obligations.ReadLightReturnsThePublishedLux := by
  refine ⟨rfl, fun s => ⟨exec_readLight_of_none, fun v published => ?_⟩⟩
  rw [← luxPayload_eq]
  exact exec_readLight_of_some published

/-! ## CALIBRATE_LIGHT (R100) -/

/-- R100's last two checks: the published lux `lux` gives no gain trim, being 0 or giving a quotient past 16 bits. -/
def trimOutOfRange (s : State) (lux : Lux) : Prop :=
  lux.toNat = 0 ∨ 0xFFFF < s.cfg.calTarget.toNat * 512 / lux.toNat

theorem lightTrim_disabled {s : State} (disabled : s.alsEn = false) : lightTrim s = .error .invalidState :=
  if_neg (Bool.eq_false_iff.mp disabled)

theorem lightTrim_unpublished {s : State} (enabled : s.alsEn = true) (unpublished : s.luxPub = none) :
    lightTrim s = .error .noData := by
  simp only [lightTrim, if_pos enabled, unpublished]

theorem lightTrim_of_outOfRange {s : State} {lux : Lux} (enabled : s.alsEn = true) (published : s.luxPub = some lux)
    (out : trimOutOfRange s lux) : lightTrim s = .error .outOfRange := by
  simp only [lightTrim, if_pos enabled, published]
  rcases out with zero | large
  · exact if_pos zero
  · rw [if_pos large, ite_self]

theorem lightTrim_of_inRange {s : State} {lux : Lux} (enabled : s.alsEn = true) (published : s.luxPub = some lux)
    (fits : ¬ trimOutOfRange s lux) :
    lightTrim s = .ok (BitVec.ofNat 16 (s.cfg.calTarget.toNat * 512 / lux.toNat)) := by
  obtain ⟨nonzero, small⟩ := not_or.mp fits
  simp only [lightTrim, if_pos enabled, published]
  rw [if_neg nonzero, if_neg small]

theorem exec_calibrateLight_of_ok {s : State} {t : U16} (trim : lightTrim s = .ok t) :
    exec .calibrateLight s = .next (State.respondOk { s with cfg := { s.cfg with gainTrim := t } } []) := by
  simp only [exec, execCalibrateLight, trim]

theorem exec_calibrateLight_of_error {s : State} {e : ErrorKind} (failed : lightTrim s = .error e) :
    exec .calibrateLight s = .next (s.respondError e) := by
  simp only [exec, execCalibrateLight, failed]

/-- Settles O55, by the first check that fails. -/
theorem calibrateLightSetsTheGainTrim : Obligations.CalibrateLightSetsTheGainTrim := by
  refine ⟨rfl, fun s => ⟨fun disabled => ?_, fun enabled unpublished => ?_, fun lux enabled published => ?_⟩⟩
  · exact exec_calibrateLight_of_error (lightTrim_disabled disabled)
  · exact exec_calibrateLight_of_error (lightTrim_unpublished enabled unpublished)
  · split
    case isTrue out => exact exec_calibrateLight_of_error (lightTrim_of_outOfRange enabled published out)
    case isFalse fits => exact exec_calibrateLight_of_ok (lightTrim_of_inRange enabled published fits)

end Sys2Proof.Machine
end

section
/-! SUPPORT. The statement that no state stops the block (R110, R111). That every turn answers a next state is
`runPick_effect`; here, once for every operation, that it asks for no bare transaction and leaves the parameters. -/

namespace Sys2Proof.Machine

/-! ## What no operation writes -/

/-- `t` has the bare request (log 8) and the parameters (R5) of `s`; nothing is said of the block's registers. -/
def sameRequestAndParams (s t : State) : Prop := t.portReq = s.portReq ∧ t.params = s.params

/-- Neither is written by the sensor port's transactions. -/
theorem sameRequestAndParams_afterTransactions (s : State) (es : List PortEvent) :
    sameRequestAndParams s (s.afterTransactions es) := ⟨rfl, rfl⟩

theorem irqStep_sameRequestAndParams (s : State) : sameRequestAndParams s (irqStep s) := by
  cases answered : (s.answerAt 0).ok
  · rw [irqStep_of_err answered]
    exact sameRequestAndParams_afterTransactions s [statusEntry s]
  · rw [irqStep_of_ok answered]
    exact sameRequestAndParams_afterTransactions s [statusEntry s]

theorem lightPass_sameRequestAndParams (s : State) : sameRequestAndParams s (lightPass s) := by
  rcases lightPass_cases s with h | ⟨es, ⟨v, h⟩ | ⟨e, h⟩⟩ <;> rw [h]
  · exact ⟨rfl, rfl⟩
  · exact sameRequestAndParams_afterTransactions s es
  · exact sameRequestAndParams_afterTransactions s es

theorem proxPass_sameRequestAndParams (s : State) : sameRequestAndParams s (proxPass s) := by
  rcases proxPass_cases s with h | ⟨es, ⟨r, h⟩ | ⟨e, h⟩⟩ <;> rw [h]
  · exact ⟨rfl, rfl⟩
  · exact sameRequestAndParams_afterTransactions s es
  · exact sameRequestAndParams_afterTransactions s es

theorem calibrateProx_sameRequestAndParams {s t : State} (run : exec .calibrateProx s = .next t) :
    sameRequestAndParams s t := by
  obtain ⟨es, frame, -⟩ := calibration_frame s
  have sampled := sameRequestAndParams_afterTransactions s es
  rw [← frame] at sampled
  cases run
  split
  · split <;> rename_i result <;> rw [result] at sampled <;> exact sampled
  · exact ⟨rfl, rfl⟩

/-- Whatever operation runs, a bare row among them, it writes neither. -/
theorem exec_sameRequestAndParams {i : Instr} {s t : State} (run : exec i s = .next t) : sameRequestAndParams s t := by
  cases i
  case calibrateProx => exact calibrateProx_sameRequestAndParams run
  case irq =>
    cases run
    exact irqStep_sameRequestAndParams s
  case alsExec =>
    cases next_of_guarded run nofun
    exact lightPass_sameRequestAndParams s
  case proxExec =>
    cases next_of_guarded run nofun
    exact proxPass_sameRequestAndParams s
  case alsDeq | proxDeq =>
    cases next_of_guarded run nofun
    exact ⟨rfl, rfl⟩
  case sensorAuto addr xfer =>
    cases next_of_guarded run nofun
    cases xfer <;> exact ⟨rfl, rfl⟩
  case lightOn | readLight | calibrateLight | proxOn | setConfig =>
    cases run
    split <;> exact ⟨rfl, rfl⟩
  all_goals
    cases run
    exact ⟨rfl, rfl⟩

/-! ## One turn -/

theorem runCommand_sameRequestAndParams {bytes : List Byte} {s t : State} (run : runCommand bytes s = .next t) :
    sameRequestAndParams s t := by
  unfold runCommand at run
  split at run
  · exact exec_sameRequestAndParams run
  · cases run
    exact ⟨rfl, rfl⟩

theorem runIf_sameRequestAndParams {enabled : Bool} {i : Instr} {s t : State} (run : runIf enabled i s = .next t) :
    sameRequestAndParams s t := by
  cases enabled
  · rw [runIf_false rfl] at run
    cases run
    exact ⟨rfl, rfl⟩
  · rw [runIf_true rfl] at run
    exact exec_sameRequestAndParams run

/-- Whatever the environment chooses, a turn writes neither; a reset event takes the state's own parameters (R123,
log 14). -/
theorem runPick_sameRequestAndParams {p : Pick} {s t : State} (run : runPick p s = .next t) :
    sameRequestAndParams s t := by
  cases p
  case issue command =>
    cases run
    unfold State.issueCommand
    split <;> exact ⟨rfl, rfl⟩
  case host =>
    change runHost s = .next t at run
    unfold runHost at run
    split at run
    · exact runCommand_sameRequestAndParams run
    · cases run
      exact ⟨rfl, rfl⟩
  case reset =>
    cases run
    exact ⟨rfl, rfl⟩
  all_goals exact runIf_sameRequestAndParams run

/-- Settles O12: with no bare transaction asked for, a step is a turn, which always answers a next state (R85 guards
every operation that could be refused), and using its choice leaves the request and the parameters. -/
theorem stepNeverStops : Obligations.StepNeverStops := by
  intro s noRequest
  obtain ⟨t, run, -⟩ := runPick_effect s.nextPick s.afterPick
  obtain ⟨request, params⟩ := runPick_sameRequestAndParams run
  exact ⟨t, (step_of_no_request noRequest).trans run, request.trans noRequest, params⟩

end Sys2Proof.Machine
end

section
/-! SUPPORT. The statements on the reset event and the reset state (R123, R124) and on quiescence (R126). That a unit's
operations are bounded by the inputs is an inequality of one turn, added up along a run; that the units come to rest is
proved once of a pipeline: a turn that makes no request leaves a resting pipeline at rest, and weak fairness ends the
passes that are left. -/

namespace Sys2Proof.Machine

/-! ## Reset (R123, R124) -/

theorem runPick_reset (s : State) : runPick .reset s = .next s.resetEvent := rfl

/-- Settles O15: the step is the reset event, and each register's value stands in the table. -/
theorem resetEventRestoresEveryRegister : Obligations.ResetEventRestoresEveryRegister := by
  intro s noRequest turn
  refine ⟨s.afterPick.resetEvent, ?_, ?_⟩
  · rw [step_of_no_request noRequest, turn, runPick_reset]
  · and_intros <;> rfl

/-- R60 at the record of log 1: `SAT_PROX` is held at its limit. -/
theorem derive_testConfig : derive Config.testConfig = ⟨1, 1, 15000, 18432, 65535⟩ := by
  simp [derive, saturationOf, Config.testConfig]

/-- Settles O16. -/
theorem resetStateHoldsTheNamedChoice : Obligations.ResetStateHoldsTheNamedChoice :=
  ⟨rfl, rfl, derive_testConfig⟩

/-! ## A quiescent state (R126) -/

theorem unitsIdle_iff (s : State) :
    unitsIdle s = true
      ↔ (s.alsPending = false ∧ s.alsBusy = false) ∧ s.proxPending = false ∧ s.proxBusy = false := by
  simp [unitsIdle, and_assoc]

theorem quiescent_iff (s : State) : quiescent s = true ↔ s.hostCmd = none ∧ unitsIdle s = true := by
  simp [quiescent]

/-- R85: a unit's turn where its operation is not enabled takes none (log 5). -/
theorem runPick_of_not_enabled {p : Pick} (unit : p ∈ [Pick.alsDeq, .alsExec, .proxDeq, .proxExec]) {s : State}
    (off : unitEnabled p s = false) : runPick p s = .next s := by
  cases p
  case alsDeq | alsExec | proxDeq | proxExec => exact runIf_false off _ s
  all_goals exact absurd unit (by simp)

/-- R85, R126: with no pass queued or in flight none of the four operations is enabled. -/
theorem unitEnabled_of_unitsIdle {s : State} (idle : unitsIdle s = true) (p : Pick) : unitEnabled p s = false := by
  obtain ⟨⟨alsPending, alsBusy⟩, proxPending, proxBusy⟩ := (unitsIdle_iff s).mp idle
  cases p <;> simp [unitEnabled, alsDeqEnabled, alsExecEnabled, proxDeqEnabled, proxExecEnabled, alsPending, alsBusy,
    proxPending, proxBusy]

theorem runPick_host_of_free_port {s : State} (free : s.hostCmd = none) : runPick .host s = .next s := by
  simp [runPick, runHost, free]

/-- R126: only an input leaves a quiescent state. -/
theorem runPick_of_quiescent {p : Pick} (own : p ∈ [Pick.host, .alsDeq, .alsExec, .proxDeq, .proxExec]) {s : State}
    (quiet : quiescent s = true) : runPick p s = .next s := by
  obtain ⟨free, idle⟩ := (quiescent_iff s).mp quiet
  rcases List.mem_cons.mp own with rfl | unit
  · exact runPick_host_of_free_port free
  · exact runPick_of_not_enabled unit (unitEnabled_of_unitsIdle idle p)

/-! ## Turns that make no request -/

/-- A turn by which nothing can be queued (R86 to R88): it is no input (R126) and runs no outstanding command. -/
def makesNoRequest (p : Pick) (s : State) : Prop := isInput p = false ∧ (p = .host → s.hostCmd = none)

theorem ne_reset_of_not_input {p : Pick} (notInput : isInput p = false) : p ≠ .reset := by
  rintro rfl
  cases notInput

/-- R85: the units' operations are no inputs, and leave the host port. -/
theorem unit_makesNoRequest_and_leaves_port {p : Pick}
    (unit : p ∈ [Pick.alsDeq, .alsExec, .proxDeq, .proxExec]) (s : State) :
    makesNoRequest p s ∧ turnPort p s = s.hostCmd := by
  cases p
  case alsDeq | alsExec | proxDeq | proxExec => exact ⟨⟨rfl, nofun⟩, rfl⟩
  all_goals exact absurd unit (by simp)

/-- Without an input a free port stays free. -/
theorem port_free_of_turn {p : Pick} {s t : State} (effect : TurnEffect p s t) (notInput : isInput p = false)
    (free : s.hostCmd = none) : t.hostCmd = none := by
  rw [effect.port]
  cases p
  case issue | signal | reset => cases notInput
  case host => rfl
  all_goals exact free

/-- R43: only an input puts a command on the port. -/
theorem port_turn_le {p : Pick} {s t : State} (effect : TurnEffect p s t) :
    t.hostCmd.isSome.toNat ≤ (isInput p).toNat + s.hostCmd.isSome.toNat := by
  rw [effect.port]
  cases p <;> simp [turnPort, isInput]

/-- Whether the choice `q` takes the unit operation `p`: it does where the operation is enabled (R85). -/
def takes (p q : Pick) (s : State) : Bool := decide (q = p) && unitEnabled p s

theorem takes_of_ne {p q : Pick} (other : q ≠ p) (s : State) : takes p q s = false := by
  simp [takes, other]

theorem takes_self (p : Pick) (s : State) : takes p p s = unitEnabled p s := by
  simp [takes]

/-- The choices of a second list are taken from the state that the first one ends in. -/
theorem runPicks_append {ps : List Pick} {s t : State} (run : runPicks ps s = .next t) (rest : List Pick) :
    runPicks (ps ++ rest) s = runPicks rest t := by
  induction ps generalizing s with
  | nil =>
    cases run
    rfl
  | cons p ps ih =>
    obtain ⟨m, turn, -⟩ := runPick_effect p s
    rw [runPicks, turn] at run
    rw [List.cons_append, runPicks, turn]
    exact ih run

namespace Pipeline
variable {u : Pipeline} {p : Pick} {s t : State}

/-- R126 of one pipeline: no pass is queued or in flight. -/
def resting (u : Pipeline) (s : State) : Prop := u.pending s = false ∧ u.busy s = false

theorem pending_false_of_turn (effect : TurnEffect p s t) (quiet : makesNoRequest p s)
    (unqueued : u.pending s = false) : u.pending t = false := by
  obtain ⟨notInput, noCommand⟩ := quiet
  have after := u.turn_pending effect
  rw [turnPending, unqueued, if_neg (ne_reset_of_not_input notInput)] at after
  by_cases dequeues : p = u.dequeue
  · rwa [if_pos dequeues] at after
  · rw [if_neg dequeues] at after
    rcases after.2 with (rfl | ⟨rfl, outstanding⟩) | unchanged
    · cases notInput
    · rw [noCommand rfl] at outstanding
      cases outstanding
    · exact unchanged

theorem resting_of_turn (effect : TurnEffect p s t) (quiet : makesNoRequest p s) (rest : u.resting s) :
    u.resting t := by
  obtain ⟨unqueued, idle⟩ := rest
  refine ⟨pending_false_of_turn effect quiet unqueued, ?_⟩
  rw [u.turn_busy effect, unqueued, idle, turnBusy]
  simp

/-- R89, R90: a dequeue with no pass in flight empties the queue. -/
theorem unqueued_of_dequeue (effect : TurnEffect u.dequeue s t) (idle : u.busy s = false) : u.pending t = false := by
  have after := u.turn_pending effect
  rwa [turnPending, if_pos rfl, idle, Bool.and_false] at after

/-! ## Six turns of the units (R126) -/

/-- Three turns of a unit end what its pipeline has in flight and what it has queued; they leave the port free, and a
pipeline that rests. -/
theorem three_turns_rest (u : Pipeline) {s : State} (free : s.hostCmd = none) :
    ∃ t, runPicks [u.execute, u.dequeue, u.execute] s = .next t ∧ t.hostCmd = none ∧ u.resting t
      ∧ ∀ v : Pipeline, v.resting s → v.resting t := by
  obtain ⟨a, turn₁, effect₁⟩ := runPick_effect u.execute s
  obtain ⟨b, turn₂, effect₂⟩ := runPick_effect u.dequeue a
  obtain ⟨t, turn₃, effect₃⟩ := runPick_effect u.execute b
  obtain ⟨quiet₁, port₁⟩ := unit_makesNoRequest_and_leaves_port u.execute_fair s
  obtain ⟨quiet₂, port₂⟩ := unit_makesNoRequest_and_leaves_port u.dequeue_fair a
  obtain ⟨quiet₃, port₃⟩ := unit_makesNoRequest_and_leaves_port u.execute_fair b
  refine ⟨t, by simp [runPicks, turn₁, turn₂, turn₃], ?_, ⟨?_, idle_of_execute effect₃⟩, fun v rest => ?_⟩
  · rw [effect₃.port, port₃, effect₂.port, port₂, effect₁.port, port₁, free]
  · exact pending_false_of_turn effect₃ quiet₃ (unqueued_of_dequeue effect₂ (idle_of_execute effect₁))
  · exact resting_of_turn effect₃ quiet₃ (resting_of_turn effect₂ quiet₂ (resting_of_turn effect₁ quiet₁ rest))

/-! ## What the inputs enable (R126) -/

theorem unitEnabled_dequeue (u : Pipeline) (s : State) : unitEnabled u.dequeue s = (u.pending s && !u.busy s) := by
  rw [Bool.eq_iff_iff, u.dequeue_enabled]
  simp

theorem unitEnabled_execute (u : Pipeline) (s : State) : unitEnabled u.execute s = u.busy s :=
  Bool.eq_iff_iff.mpr (u.execute_enabled s)

/-- How many dequeues can still come without an input: that of the queued pass, and that of a pass which the outstanding
command may queue. -/
def owed (u : Pipeline) (s : State) : Nat := (u.pending s).toNat + s.hostCmd.isSome.toNat

/-- A turn pays for the dequeue it takes, and only an input makes more of them possible. -/
theorem dequeue_turn_le (effect : TurnEffect p s t) :
    (takes u.dequeue p s).toNat + u.owed t ≤ (isInput p).toNat + u.owed s := by
  have after := u.turn_pending effect
  have port := port_turn_le effect
  unfold owed
  by_cases dequeues : p = u.dequeue
  · rw [turnPending, if_pos dequeues] at after
    rw [dequeues, takes_self, u.unitEnabled_dequeue, after, ← dequeues]
    cases u.pending s <;> cases u.busy s <;> simp <;> omega
  · rw [turnPending, if_neg dequeues] at after
    rw [takes_of_ne dequeues]
    split at after
    next reset =>
      rw [after, Bool.toNat_false]
      omega
    next =>
      rcases after.2 with (rfl | ⟨rfl, outstanding⟩) | unchanged
      · have queued := Bool.toNat_le (u.pending t)
        rw [effect.port]
        simp only [turnPort, isInput, Bool.toNat_false, Bool.toNat_true]
        omega
      · have queued := Bool.toNat_le (u.pending t)
        rw [effect.port, outstanding]
        simp only [turnPort, Option.isSome_none, Bool.toNat_false, Bool.toNat_true]
        omega
      · rw [unchanged, Bool.toNat_false]
        omega

/-- A turn pays for the execution it takes, and only a dequeue makes one more of them possible. -/
theorem execute_turn_le (effect : TurnEffect p s t) :
    (takes u.execute p s).toNat + (u.busy t).toNat ≤ (takes u.dequeue p s).toNat + (u.busy s).toNat := by
  have after := u.turn_busy effect
  by_cases executes : p = u.execute
  · subst executes
    rw [idle_of_execute effect, takes_self, u.unitEnabled_execute, Bool.toNat_false]
    omega
  · rw [takes_of_ne executes, Bool.toNat_false, after, turnBusy]
    by_cases dequeues : p = u.dequeue
    · rw [if_pos dequeues, dequeues, takes_self, u.unitEnabled_dequeue]
      cases u.pending s <;> cases u.busy s <;> decide
    · rw [if_neg dequeues]
      split
      · simp
      · omega

end Pipeline

section
variable {states : Nat → State} {picks : Nat → Pick}

theorem countP_range_succ (f : Nat → Bool) (n : Nat) :
    (List.range (n + 1)).countP f = (List.range n).countP f + (f n).toNat := by
  rw [List.range_succ, List.countP_append, List.countP_singleton]
  cases f n <;> rfl

theorem inputsBefore_succ (picks : Nat → Pick) (n : Nat) :
    inputsBefore picks (n + 1) = inputsBefore picks n + (isInput (picks n)).toNat :=
  countP_range_succ ..

theorem takenBefore_succ (p : Pick) (states : Nat → State) (picks : Nat → Pick) (n : Nat) :
    takenBefore p states picks (n + 1) = takenBefore p states picks n + (takes p (picks n) (states n)).toNat :=
  countP_range_succ ..

/-- R126: the dequeues taken and still owed are at most the inputs and what was owed at the start. -/
theorem Pipeline.dequeues_le (u : Pipeline) (run : isRun states picks) (n : Nat) :
    takenBefore u.dequeue states picks n + u.owed (states n) ≤ inputsBefore picks n + u.owed (states 0) := by
  induction n with
  | zero => rfl
  | succ n ih =>
    have turn := u.dequeue_turn_le (.of_isRun run n)
    rw [takenBefore_succ, inputsBefore_succ]
    omega

/-- R126: the executions taken and still in flight are at most the dequeues and the pass in flight at the start. -/
theorem Pipeline.executions_le (u : Pipeline) (run : isRun states picks) (n : Nat) :
    takenBefore u.execute states picks n + (u.busy (states n)).toNat
      ≤ takenBefore u.dequeue states picks n + (u.busy (states 0)).toNat := by
  induction n with
  | zero => rfl
  | succ n ih =>
    have turn := u.execute_turn_le (.of_isRun run n)
    rw [takenBefore_succ, takenBefore_succ]
    omega

/-- R126 of one pipeline: its operations are bounded by the inputs. -/
theorem Pipeline.operations_le_inputs (u : Pipeline) (run : isRun states picks) (n : Nat) :
    takenBefore u.dequeue states picks n
        ≤ inputsBefore picks n + (u.pending (states 0)).toNat + (states 0).hostCmd.isSome.toNat
      ∧ takenBefore u.execute states picks n ≤ takenBefore u.dequeue states picks n + (u.busy (states 0)).toNat := by
  have dequeues := u.dequeues_le run n
  have executions := u.executions_le run n
  unfold owed at dequeues
  omega

/-! ## Fair runs with finitely many inputs (R126) -/

/-- From the choice `n` on, no turn of the run makes a request. -/
def quietFrom (states : Nat → State) (picks : Nat → Pick) (n : Nat) : Prop :=
  ∀ m, n ≤ m → makesNoRequest (picks m) (states m)

/-- Without inputs a port that is free stays so. -/
theorem port_stays_free (run : isRun states picks) {n : Nat} (noInput : ∀ m, n ≤ m → isInput (picks m) = false)
    (free : (states n).hostCmd = none) {m : Nat} (later : n ≤ m) : (states m).hostCmd = none := by
  induction m, later using Nat.le_induction with
  | base => exact free
  | succ k after ih => exact port_free_of_turn (.of_isRun run k) (noInput k after) ih

/-- A run with finitely many inputs runs at most one command after the last of them; from then on no turn makes a
request. -/
theorem quietFrom_of_finitelyManyInputs (run : isRun states picks) (finite : finitelyManyInputs picks) :
    ∃ n, quietFrom states picks n := by
  obtain ⟨last, noInput⟩ := finite
  by_cases freed : ∃ n, last ≤ n ∧ (states n).hostCmd = none
  · obtain ⟨n, after, free⟩ := freed
    have noInput : ∀ m, n ≤ m → isInput (picks m) = false := fun m later => noInput m (after.trans later)
    exact ⟨n, fun m later => ⟨noInput m later, fun _ => port_stays_free run noInput free later⟩⟩
  · refine ⟨last, fun m later => ⟨noInput m later, fun host => absurd ?_ freed⟩⟩
    have port := (TurnEffect.of_isRun run m).port
    rw [host] at port
    exact ⟨m + 1, by omega, port⟩

namespace Pipeline
variable {u : Pipeline} {n : Nat}

theorem unqueued_from (run : isRun states picks) (quiet : quietFrom states picks n)
    (unqueued : u.pending (states n) = false) {m : Nat} (later : n ≤ m) : u.pending (states m) = false := by
  induction m, later using Nat.le_induction with
  | base => exact unqueued
  | succ k after ih => exact pending_false_of_turn (.of_isRun run k) (quiet k after) ih

theorem resting_from (run : isRun states picks) (quiet : quietFrom states picks n) (rest : u.resting (states n))
    {m : Nat} (later : n ≤ m) : u.resting (states m) := by
  induction m, later using Nat.le_induction with
  | base => exact rest
  | succ k after ih => exact resting_of_turn (.of_isRun run k) (quiet k after) ih

/-- With no pass queued and none requested, the pass in flight is the last. -/
theorem rests_of_unqueued (run : isRun states picks) (fair : weaklyFair states picks)
    (quiet : quietFrom states picks n) (unqueued : u.pending (states n) = false) :
    ∃ m, n ≤ m ∧ u.resting (states m) := by
  cases busy : u.busy (states n) with
  | false => exact ⟨n, le_rfl, unqueued, busy⟩
  | true =>
    obtain ⟨k, later, executes, -⟩ :=
      u.executed_of_busy run fair (fun m later => ne_reset_of_not_input (quiet m later).1) busy
    have effect := TurnEffect.of_isRun run k
    rw [executes] at effect
    exact ⟨k + 1, by omega, unqueued_from run quiet unqueued (by omega), idle_of_execute effect⟩

/-- A queued pass is dequeued, and then none is queued. -/
theorem rests (run : isRun states picks) (fair : weaklyFair states picks) (quiet : quietFrom states picks n) :
    ∃ m, n ≤ m ∧ u.resting (states m) := by
  cases queued : u.pending (states n) with
  | false => exact rests_of_unqueued run fair quiet queued
  | true =>
    obtain ⟨k, later, dequeues, -, idle⟩ :=
      u.dequeued_of_queued run fair (fun m later => ne_reset_of_not_input (quiet m later).1) queued
    have effect := TurnEffect.of_isRun run k
    rw [dequeues] at effect
    have quietAfter : quietFrom states picks (k + 1) := fun m after => quiet m (by omega)
    obtain ⟨m, after, rest⟩ := rests_of_unqueued run fair quietAfter (unqueued_of_dequeue effect idle)
    exact ⟨m, by omega, rest⟩

end Pipeline

theorem unitsIdle_of_resting {s : State} (light : lightPipeline.resting s) (prox : proxPipeline.resting s) :
    unitsIdle s = true :=
  (unitsIdle_iff s).mpr ⟨light, prox⟩

/-- R126: the units come to rest for good. -/
theorem unitsIdle_eventually (run : isRun states picks) (fair : weaklyFair states picks)
    (finite : finitelyManyInputs picks) : ∃ n, ∀ m, n ≤ m → unitsIdle (states m) = true := by
  obtain ⟨n, quiet⟩ := quietFrom_of_finitelyManyInputs run finite
  obtain ⟨a, lightLater, light⟩ := lightPipeline.rests run fair quiet
  obtain ⟨b, proxLater, prox⟩ := proxPipeline.rests run fair quiet
  refine ⟨max a b, fun m later => unitsIdle_of_resting ?_ ?_⟩
  · exact Pipeline.resting_from run (fun k after => quiet k (by omega)) light (by omega)
  · exact Pipeline.resting_from run (fun k after => quiet k (by omega)) prox (by omega)

/-- R43, R126: where issued commands are run, the port is free for good after the last input. -/
theorem port_free_eventually (run : isRun states picks) (executed : commandsExecuted states picks)
    (finite : finitelyManyInputs picks) : ∃ n, ∀ m, n ≤ m → (states m).hostCmd = none := by
  obtain ⟨last, noInput⟩ := finite
  have freed : ∃ n, last ≤ n ∧ (states n).hostCmd = none := by
    by_contra! taken
    obtain ⟨m, later, host⟩ := executed last fun m later => Option.isSome_iff_ne_none.mpr (taken m later)
    have port := (TurnEffect.of_isRun run m).port
    rw [host] at port
    exact taken (m + 1) (by omega) port
  obtain ⟨n, after, free⟩ := freed
  exact ⟨n, fun m later => port_stays_free run (fun k past => noInput k (by omega)) free later⟩

/-- R126 of runs. -/
theorem quiescent_eventually (run : isRun states picks) (fair : weaklyFair states picks)
    (finite : finitelyManyInputs picks) (executed : commandsExecuted states picks) :
    ∃ n, ∀ m, n ≤ m → quiescent (states m) = true := by
  obtain ⟨a, idle⟩ := unitsIdle_eventually run fair finite
  obtain ⟨b, free⟩ := port_free_eventually run executed finite
  exact ⟨max a b, fun m later => (quiescent_iff _).mpr ⟨free m (by omega), idle m (by omega)⟩⟩

end

/-- The two units' turns one after the other end in a quiescent state: the second unit's leave the first at rest. -/
theorem six_turns_reach_quiescence {s : State} (free : s.hostCmd = none) :
    ∃ t, runEndsIn [.alsExec, .alsDeq, .alsExec, .proxExec, .proxDeq, .proxExec] s t := by
  obtain ⟨m, lightRun, freeAfter, light, -⟩ := lightPipeline.three_turns_rest free
  obtain ⟨t, proxRun, freeAtEnd, prox, keeps⟩ := proxPipeline.three_turns_rest freeAfter
  refine ⟨t, (runPicks_append lightRun _).trans proxRun, ?_⟩
  exact (quiescent_iff t).mpr ⟨freeAtEnd, unitsIdle_of_resting (keeps _ light) prox⟩

/-- Settles O51: the quiescent state and the six turns from single turns, the bounds and the rest on fair runs from the
two pipelines. -/
theorem unitsReachQuiescence : Obligations.UnitsReachQuiescence := by
  refine ⟨fun s noRequest quiet own => ?_, fun s free => six_turns_reach_quiescence free, fun states picks run =>
    ⟨fun n => ?_, fun fair finite => ⟨unitsIdle_eventually run fair finite, quiescent_eventually run fair finite⟩⟩⟩
  · exact (step_of_no_request noRequest).trans (runPick_of_quiescent own quiet)
  · obtain ⟨lightDequeues, lightExecutions⟩ := lightPipeline.operations_le_inputs run n
    obtain ⟨proxDequeues, proxExecutions⟩ := proxPipeline.operations_le_inputs run n
    exact ⟨lightDequeues, lightExecutions, proxDequeues, proxExecutions⟩

end Sys2Proof.Machine
end
